-- ==== Sys2Proof/Word.lean ====
section
/-! DEFINITION. The word types of GFB: the 32-bit register word (rule R10), the byte of the little-endian byte view
(rule R98) and the 16-bit byte offset of the register window (rules R10, R110). -/

namespace Sys2Proof

/-- A 32-bit register word (00_scope.md R10). -/
abbrev Word := BitVec 32

/-- A byte of the little-endian byte view of a word (20_memory.md R98). -/
abbrev Byte := BitVec 8

/-- A byte offset inside the register window, `0x0000..0xFFFF` from BASE (00_scope.md R10). -/
abbrev Offset := BitVec 16

end Sys2Proof
end

