-- ==== Sys2Proof/Config.lean ====
section
/-! DEFINITION. What an implementation of GFB fixes: the parameters of rule R8, the constant registers of rules R26 to R28,
and the free values (opaque constants with no body) that the spec leaves to the implementation or to the platform. -/

namespace Sys2Proof.Config

/-! ## Fixed parameters (00_scope.md R8) -/

/-- Number of filter-bank bins (R8). -/
abbrev nBins : Nat := 64
/-- Number of adaptive-gain zones (R8). -/
abbrev nZones : Nat := 4
/-- Bins per zone (R8). -/
abbrev zoneW : Nat := 16
/-- Samples per chunk (R8). -/
abbrev chunk : Nat := 128
/-- Capacity of the sample history (R8, 90_conflicts.md C1). -/
abbrev histLen : Nat := 2048
/-- Entries of the window table (R8). -/
abbrev winRes : Nat := 4096
/-- Entries of the novelty history (R8). -/
abbrev novLen : Nat := 128
/-- Oscillators of the tempo tracker (R8). -/
abbrev nOsc : Nat := 121
/-- The most hops one RUN_TEMPO advances the beat phase by (R8). -/
abbrev elapsedMax : Nat := 8

/-- PI_F, the binary32 nearest to pi (R8). -/
def piBits : Word := 0x40490FDB#32
/-- TWO_PI_F = 2 * PI_F (R8). -/
def twoPiBits : Word := 0x40C90FDB#32
/-- OMEGA_MAX = PI_F / 8 (R8). -/
def omegaMaxBits : Word := 0x3EC90FDB#32

/-! ## Constant registers -/

/-- ID, "GFB1" (10_state.md R26). -/
def idValue : Word := 0x47464231#32
/-- VERSION: SPEC_REV 1 over SRC_EDITION 7 (10_state.md R27). -/
def versionValue : Word := 0x00010007#32
/-- PARAMS0 (10_state.md R28). -/
def params0Value : Word := 0x08B47940#32
/-- PARAMS1 (10_state.md R28). -/
def params1Value : Word := 0x10000080#32
/-- PARAMS2 (10_state.md R28). -/
def params2Value : Word := 0x08000080#32

/-! ## Free values: nothing in Lean can evaluate these -/

/-- The n-th cycle count an engine writes to LAST_CYCLES: any 32-bit value, drawn anew at every completion
(10_state.md R45, 93_implementation_defined.md). -/
opaque cyclesDraw : Nat → Word

/-- The n-th value a host read of a working-state offset returns while BUSY = 1: any 32-bit value
(10_state.md R86, 93_implementation_defined.md). -/
opaque busyReadDraw : Nat → Word

/-- The sign of the n-th NaN that reaches HIST (30_encoding.md R115: any NaN pattern). -/
opaque nanSign : Nat → Bool

/-- The fraction of the n-th NaN that reaches HIST, less one, so that it is never zero (30_encoding.md R115). -/
opaque nanFraction : Nat → Fin 8388607

/-- The NaN pattern a store other than to HIST would write. The spec says such a store never happens
(30_encoding.md R115): only a state that no run reaches can meet it. -/
opaque strayNanSign : Bool

/-- The fraction, less one, of the pattern of `strayNanSign`. -/
opaque strayNanFraction : Fin 8388607

/-- `atan2_f32(y, x)` off the axes (00_scope.md R18): a sign and a magnitude pattern at most that of PI_F, so every value
is finite and in [-PI_F, PI_F]. It depends on the patterns of y and x only. The axis cases R18 fixes are in
`Sys2Proof.Machine.F32.atan2`. -/
opaque atan2Free : Word → Word → Bool × Fin 0x40490FDC

/-- BASE, the address of the window on the platform (00_scope.md R10). -/
opaque base : Nat

/-- IRQ_LINE, the host interrupt number the platform wires IRQ to (60_exceptions.md R185). -/
opaque irqLine : Nat

end Sys2Proof.Config
end

