-- ==== Sys2Proof/Machine/F32.lean ====
section
/-! DEFINITION. IEEE 754 binary32 arithmetic, exactly as 00_scope.md R15 to R18 ask for it: one rounding per operation, to
nearest with ties to even, subnormals kept, no fused multiply-add.

A finite binary32 is an integer multiple of 2^-149, so a finite value is held as a sign and a natural number of units of
2^-149; every operation computes the exact result and rounds it once (`roundRatio`, `roundRoot`). The NaNs are one value:
no operation or comparison of the spec tells two NaN patterns apart, and a pattern is chosen only where a NaN is stored
(30_encoding.md R115). -/

namespace Sys2Proof.Machine

/-- A binary32 value: `fin neg n` is (-1)^neg * n * 2^-149 (00_scope.md R15). -/
inductive F32 where
  | nan
  | inf (neg : Bool)
  | fin (neg : Bool) (units : Nat)
  deriving DecidableEq, Repr

/-! ## Bit patterns (00_scope.md R15) -/

/-- The value of a bit pattern: bit 31 sign, bits 30:23 exponent with bias 127, bits 22:0 fraction. -/
def F32.ofBits (w : Word) : F32 :=
  let neg := w.getLsbD 31
  let e := (w.extractLsb' 23 8).toNat
  let f := (w.extractLsb' 0 23).toNat
  if e = 255 then (if f = 0 then .inf neg else .nan)
  else if e = 0 then .fin neg f
  else .fin neg ((2 ^ 23 + f) * 2 ^ (e - 1))

/-- The exponent and fraction fields, as one number, of the magnitude `n * 2^-149` of a binary32. -/
def F32.fieldsOf (n : Nat) : Nat :=
  if n < 2 ^ 23 then n else (n.log2 - 23) * 2 ^ 23 + n / 2 ^ (n.log2 - 23)

/-- A sign bit above 31 bits of exponent and fraction. -/
def F32.signed (neg : Bool) (fields : Nat) : Word := BitVec.ofNat 32 ((if neg then 2 ^ 31 else 0) + fields)

/-- The NaN pattern with this sign and with fraction `f + 1`: every NaN pattern is one of these (30_encoding.md R115). -/
def F32.nanPattern (neg : Bool) (f : Fin 8388607) : Word := F32.signed neg (0x7F800000 + (f.val + 1))

/-- The pattern of a value, with `nan` the pattern taken for a NaN. -/
def F32.bitsWith (nan : Word) : F32 → Word
  | .nan => nan
  | .inf neg => F32.signed neg 0x7F800000
  | .fin neg n => F32.signed neg (F32.fieldsOf n)

/-- The pattern a store outside HIST writes. No such store meets a NaN in a state a run reaches (30_encoding.md R115). -/
def F32.toBits (x : F32) : Word := x.bitsWith (F32.nanPattern Config.strayNanSign Config.strayNanFraction)

/-- The pattern the `n`-th store to HIST writes: a NaN may take any NaN pattern (30_encoding.md R115,
93_implementation_defined.md). -/
def F32.toHistBits (n : Nat) (x : F32) : Word := x.bitsWith (F32.nanPattern (Config.nanSign n) (Config.nanFraction n))

/-! ## Rounding to nearest, ties to even (00_scope.md R16) -/

/-- `num / den` rounded to an integer, ties to even. -/
def roundInt (num den : Nat) : Nat :=
  let q := num / den
  let r := num % den
  if 2 * r < den then q else if den < 2 * r then q + 1 else q + q % 2

/-- How many low bits of a magnitude of `n` whole units a 24-bit significand drops. -/
def dropped (n : Nat) : Nat := n.log2 - 23

/-- The exact magnitude `num / den` (in units of 2^-149) rounded to a 24-bit significand. -/
def roundRatio (num den : Nat) : Nat :=
  let k := dropped (num / den)
  roundInt num (den * 2 ^ k) * 2 ^ k

/-- The integer square root of `n`, below 2^bits, one result bit at a time. -/
def isqrtBelow (n : Nat) : Nat → Nat → Nat
  | 0, root => root
  | bits + 1, root =>
    let trial := root + 2 ^ bits
    isqrtBelow n bits (if trial * trial ≤ n then trial else root)

/-- The exact magnitude `sqrt m` (in units of 2^-149) rounded to a 24-bit significand, ties to even. -/
def roundRoot (m : Nat) : Nat :=
  let k := (m.log2 / 2) - 23
  let q := isqrtBelow (m / 4 ^ k) 24 0
  let half := (2 * q + 1) * (2 * q + 1) * 4 ^ k
  (if 4 * m < half then q else if half < 4 * m then q + 1 else q + q % 2) * 2 ^ k

/-- A rounded magnitude as a value: 2^277 units are 2^128, past the largest finite binary32. -/
def F32.ofMagnitude (neg : Bool) (n : Nat) : F32 := if n < 2 ^ 277 then .fin neg n else .inf neg

/-! ## Operations (00_scope.md R16) -/

/-- The signed number of units of a finite value. -/
def signedUnits (neg : Bool) (n : Nat) : Int := if neg then -(n : Int) else (n : Int)

/-- `-a`. -/
def F32.neg : F32 → F32
  | .nan => .nan
  | .inf s => .inf (!s)
  | .fin s n => .fin (!s) n

/-- The exact sum `z` of two finite values rounded once; an exact zero is -0 only when both operands are negative. -/
def F32.ofSum (bothNeg : Bool) (z : Int) : F32 :=
  if z = 0 then .fin bothNeg 0 else .ofMagnitude (decide (z < 0)) (roundRatio z.natAbs 1)

/-- `a + b`. -/
def F32.add : F32 → F32 → F32
  | .nan, _ => .nan
  | _, .nan => .nan
  | .inf s, .inf t => if s = t then .inf s else .nan
  | .inf s, .fin _ _ => .inf s
  | .fin _ _, .inf t => .inf t
  | .fin s a, .fin t b => .ofSum (s && t) (signedUnits s a + signedUnits t b)

/-- `a - b`. -/
def F32.sub (a b : F32) : F32 := a.add b.neg

/-- `a * b`. -/
def F32.mul : F32 → F32 → F32
  | .nan, _ => .nan
  | _, .nan => .nan
  | .inf s, .inf t => .inf (s ^^ t)
  | .inf s, .fin t b => if b = 0 then .nan else .inf (s ^^ t)
  | .fin s a, .inf t => if a = 0 then .nan else .inf (s ^^ t)
  | .fin s a, .fin t b => .ofMagnitude (s ^^ t) (roundRatio (a * b) (2 ^ 149))

/-- `a / b`: a finite non-zero value over zero is an infinity, and 0 / 0 is a NaN. -/
def F32.div : F32 → F32 → F32
  | .nan, _ => .nan
  | _, .nan => .nan
  | .inf _, .inf _ => .nan
  | .inf s, .fin t _ => .inf (s ^^ t)
  | .fin s _, .inf t => .fin (s ^^ t) 0
  | .fin s a, .fin t b =>
    if b = 0 then (if a = 0 then .nan else .inf (s ^^ t))
    else .ofMagnitude (s ^^ t) (roundRatio (a * 2 ^ 149) b)

/-- `fsqrt(a)`: correctly rounded; -0 for -0; NaN below zero. -/
def F32.sqrt : F32 → F32
  | .nan => .nan
  | .inf s => if s then .nan else .inf false
  | .fin s n => if n = 0 then .fin s 0 else if s then .nan else .ofMagnitude false (roundRoot (n * 2 ^ 149))

/-- `i2f(n)`: exact for every integer the spec converts (|n| at most 2^24). -/
def F32.ofInt (n : Int) : F32 := .ofSum false (n * 2 ^ 149)

/-! ## Comparisons (00_scope.md R17) -/

/-- Not a NaN. -/
def F32.ordered : F32 → Bool
  | .nan => false
  | .inf _ => true
  | .fin _ _ => true

/-- The place of a value that is not a NaN in the order of the values: -0 and +0 share one, the infinities lie outside
every finite value. -/
def F32.rank : F32 → Int
  | .nan => 0
  | .inf s => signedUnits s (2 ^ 277)
  | .fin s n => signedUnits s n

/-- `a < b`, false with a NaN. -/
def F32.lt (a b : F32) : Bool := a.ordered && b.ordered && decide (a.rank < b.rank)
/-- `a <= b`, false with a NaN. -/
def F32.le (a b : F32) : Bool := a.ordered && b.ordered && decide (a.rank ≤ b.rank)
/-- `a > b`. -/
def F32.gt (a b : F32) : Bool := b.lt a
/-- `a >= b`. -/
def F32.ge (a b : F32) : Bool := b.le a

/-- Neither a NaN nor an infinity. -/
def F32.finite : F32 → Bool
  | .nan => false
  | .inf _ => false
  | .fin _ _ => true

/-- `fmin(a, b)` is `b` if `b < a`, else `a`. -/
def F32.fmin (a b : F32) : F32 := if b.lt a then b else a
/-- `fmax(a, b)` is `b` if `b > a`, else `a`. -/
def F32.fmax (a b : F32) : F32 := if b.gt a then b else a

/-! ## Constants (00_scope.md R8, R19) -/

/-- `+0`. -/
def F32.zero : F32 := .fin false 0
/-- `1.0`. -/
def F32.one : F32 := .ofBits 0x3F800000#32
/-- `2.0`. -/
def F32.two : F32 := .ofBits 0x40000000#32
/-- `32768.0`. -/
def F32.scale : F32 := .ofBits 0x47000000#32
/-- `64.0`. -/
def F32.sixtyFour : F32 := .ofBits 0x42800000#32
/-- PI_F. -/
def F32.pi : F32 := .ofBits Config.piBits
/-- -PI_F. -/
def F32.negPi : F32 := F32.pi.neg
/-- TWO_PI_F. -/
def F32.twoPi : F32 := .ofBits Config.twoPiBits
/-- PI_F / 2, rounded. -/
def F32.halfPi : F32 := .ofBits 0x3FC90FDB#32
/-- OMEGA_MAX. -/
def F32.omegaMax : F32 := .ofBits Config.omegaMaxBits

/-! ## The arctangent (00_scope.md R18) -/

/-- A value with this sign. -/
def F32.withSign (neg : Bool) (x : F32) : F32 := if neg then x.neg else x

/-- `atan2_f32(y, x)`: the axis cases R18 fixes; elsewhere the implementation's own value in [-PI_F, PI_F]. -/
def F32.atan2 (y x : F32) : F32 :=
  match y, x with
  | .fin sy 0, .fin sx _ => if sx then F32.pi.withSign sy else .fin sy 0
  | .fin sy (_ + 1), .fin _ 0 => F32.halfPi.withSign sy
  | _, _ =>
    let a := Config.atan2Free y.toBits x.toBits
    .ofBits (F32.signed a.1 a.2.val)

end Sys2Proof.Machine
end

