-- ==== Sys2Proof/Machine/Map.lean ====
section
/-! DEFINITION. The address map of the register window (10_state.md R25): every mapped word has a name here, `slotAt`
gives the word an offset names, and the configuration words also have their offsets, for the enable check of
40_sequencer.md R128. -/

namespace Sys2Proof.Machine

/-! ## Names of the mapped words -/

/-- The 23 configuration scalars, in ascending offset order (10_state.md R49 to R71). -/
inductive CfgReg where
  | actThresh | actKeep | actGain | inactDecay | fastAttack | fastRelease | slowAttack | slowRelease
  | agcDecay | agcFloor | novDecay | novEps | onsetRatio | onsetMin | resDecay | resIn | oscGain | confEps
  | bpmMin | bpmMax | pllKp | lockThresh | novBaseLen
  deriving DecidableEq, Repr

/-- The five per-bin configuration tables (10_state.md R72 to R76). -/
inductive BinTable where
  | freq | cos | sin | n | gain
  deriving DecidableEq, Repr

/-- The four per-oscillator configuration tables (10_state.md R77 to R80). -/
inductive OscTable where
  | bpm | omega | cos | sin
  deriving DecidableEq, Repr

/-- One configuration word: a scalar or a table element (10_state.md R25). -/
inductive CfgWord where
  | scalar (r : CfgReg)
  | bin (t : BinTable) (k : Fin 64)
  | osc (t : OscTable) (m : Fin 121)
  | win (j : Fin 4096)
  deriving DecidableEq, Repr

/-- The 14 result scalars (10_state.md R82 to R84). -/
inductive ResReg where
  | seq | novelty | bpm | phase01 | confidence | flags | winner | phase | numErr | hopCount | nfMask0 | nfMask1
  | powerSum | flux
  deriving DecidableEq, Repr

/-- The three per-bin result arrays (10_state.md R85). -/
inductive ResTable where
  | mag | fast | slow
  deriving DecidableEq, Repr

/-- The 18 working scalars (10_state.md R91). -/
inductive WorkReg where
  | flux | baseline | novelty | xin | onset | powerSum | winner | conf | bpm | tempoOsc | tempoValid | phase
  | polarity | phase01 | locked | bpmRej | nfMask0 | nfMask1
  deriving DecidableEq, Repr

/-- The five per-bin working arrays (10_state.md R89). -/
inductive WorkTable where
  | raw | mag | fast | slow | prev
  deriving DecidableEq, Repr

/-- The seven per-oscillator working arrays (10_state.md R92). -/
inductive OscArray where
  | re | im | raw | smooth | phase | contrib | active
  deriving DecidableEq, Repr

/-- One working-state word (10_state.md section 8). -/
inductive WorkWord where
  | bin (t : WorkTable) (k : Fin 64)
  | zone (z : Fin 4)
  | scalar (r : WorkReg)
  | osc (t : OscArray) (m : Fin 121)
  | nov (j : Fin 128)
  | hist (i : Fin 2048)
  | stage (i : Fin 128)
  deriving DecidableEq, Repr

/-- One mapped word of the window (10_state.md R25). -/
inductive Slot where
  | id | version | params0 | params1 | params2 | ctrl | cmd | status | err | errInfo | cfgFailAddr | irqEn
  | stageCount | sampleIn | samplePair | dcOffset | novInject | elapsedPend | hopCount | droppedCount
  | numErrCount | lastCycles | histWptr | histFill | novWptr
  | cfg (w : CfgWord)
  | res (r : ResReg)
  | resBin (t : ResTable) (k : Fin 64)
  | work (w : WorkWord)
  deriving DecidableEq, Repr

/-! ## Offsets of the registers that instructions name (10_state.md R25) -/

/-- CTRL. -/
def ctrlOff : Offset := 0x014#16
/-- CMD. -/
def cmdOff : Offset := 0x018#16
/-- STATUS. -/
def statusOff : Offset := 0x01C#16
/-- ERR. -/
def errOff : Offset := 0x020#16
/-- IRQ_EN. -/
def irqEnOff : Offset := 0x02C#16
/-- SAMPLE_IN. -/
def sampleInOff : Offset := 0x034#16
/-- SAMPLE_PAIR. -/
def samplePairOff : Offset := 0x038#16
/-- DC_OFFSET. -/
def dcOffsetOff : Offset := 0x03C#16
/-- NOV_INJECT. -/
def novInjectOff : Offset := 0x040#16

/-! ## Arrays: element i of an array at A is at A + 4 i (10_state.md R25) -/

/-- The element of the `n`-element array at `base` that byte offset `a` names, if any (10_state.md R25). -/
def elemAt (base n a : Nat) : Option (Fin n) :=
  if h : a % 4 = 0 ∧ base ≤ a ∧ (a - base) / 4 < n then some ⟨(a - base) / 4, h.2.2⟩ else none

/-- The configuration scalars in ascending offset order (40_sequencer.md R128). -/
def CfgReg.all : List CfgReg :=
  [.actThresh, .actKeep, .actGain, .inactDecay, .fastAttack, .fastRelease, .slowAttack, .slowRelease,
   .agcDecay, .agcFloor, .novDecay, .novEps, .onsetRatio, .onsetMin, .resDecay, .resIn, .oscGain, .confEps,
   .bpmMin, .bpmMax, .pllKp, .lockThresh, .novBaseLen]

/-- The byte offset of a configuration scalar (10_state.md R49 to R71). -/
def CfgReg.offset : CfgReg → Nat
  | .actThresh => 0x080 | .actKeep => 0x084 | .actGain => 0x088 | .inactDecay => 0x08C
  | .fastAttack => 0x090 | .fastRelease => 0x094 | .slowAttack => 0x098 | .slowRelease => 0x09C
  | .agcDecay => 0x0A0 | .agcFloor => 0x0A4 | .novDecay => 0x0A8 | .novEps => 0x0AC
  | .onsetRatio => 0x0B0 | .onsetMin => 0x0B4 | .resDecay => 0x0B8 | .resIn => 0x0BC
  | .oscGain => 0x0C0 | .confEps => 0x0C4 | .bpmMin => 0x0C8 | .bpmMax => 0x0CC
  | .pllKp => 0x0D0 | .lockThresh => 0x0D4 | .novBaseLen => 0x0D8

/-- The byte offset of element 0 of a per-bin configuration table (10_state.md R72 to R76). -/
def BinTable.base : BinTable → Nat
  | .freq => 0x800 | .cos => 0x900 | .sin => 0xA00 | .n => 0xB00 | .gain => 0xC00

/-- The byte offset of element 0 of a per-oscillator configuration table (10_state.md R77 to R80). -/
def OscTable.base : OscTable → Nat
  | .bpm => 0x1000 | .omega => 0x1200 | .cos => 0x1400 | .sin => 0x1600

/-- The byte offset of a configuration word (10_state.md R25). -/
def CfgWord.offset : CfgWord → Nat
  | .scalar r => r.offset
  | .bin t k => t.base + 4 * k.val
  | .osc t m => t.base + 4 * m.val
  | .win j => 0x2000 + 4 * j.val

/-- Every configuration word, in the order the enable check visits them: ascending offset (40_sequencer.md R128). -/
def CfgWord.all : List CfgWord :=
  CfgReg.all.map .scalar
  ++ [BinTable.freq, .cos, .sin, .n, .gain].flatMap (fun t => (List.finRange 64).map (.bin t))
  ++ [OscTable.bpm, .omega, .cos, .sin].flatMap (fun t => (List.finRange 121).map (.osc t))
  ++ (List.finRange 4096).map .win

/-- The configuration word at byte offset `a`, if `a` is one (30_encoding.md R114, row WR_CFG; 10_state.md R25). -/
def cfgAt (a : Nat) : Option CfgWord :=
  ((CfgReg.all.find? (fun r => r.offset == a)).map .scalar)
  <|> ((elemAt 0x800 64 a).map (.bin .freq))
  <|> ((elemAt 0x900 64 a).map (.bin .cos))
  <|> ((elemAt 0xA00 64 a).map (.bin .sin))
  <|> ((elemAt 0xB00 64 a).map (.bin .n))
  <|> ((elemAt 0xC00 64 a).map (.bin .gain))
  <|> ((elemAt 0x1000 121 a).map (.osc .bpm))
  <|> ((elemAt 0x1200 121 a).map (.osc .omega))
  <|> ((elemAt 0x1400 121 a).map (.osc .cos))
  <|> ((elemAt 0x1600 121 a).map (.osc .sin))
  <|> ((elemAt 0x2000 4096 a).map .win)

/-- The identity, control, status, runtime and counter registers by offset (10_state.md R25). -/
def controlSlotAt : Nat → Option Slot
  | 0x000 => some .id | 0x004 => some .version | 0x008 => some .params0 | 0x00C => some .params1
  | 0x010 => some .params2 | 0x014 => some .ctrl | 0x018 => some .cmd | 0x01C => some .status
  | 0x020 => some .err | 0x024 => some .errInfo | 0x028 => some .cfgFailAddr | 0x02C => some .irqEn
  | 0x030 => some .stageCount | 0x034 => some .sampleIn | 0x038 => some .samplePair | 0x03C => some .dcOffset
  | 0x040 => some .novInject | 0x044 => some .elapsedPend | 0x048 => some .hopCount | 0x04C => some .droppedCount
  | 0x050 => some .numErrCount | 0x054 => some .lastCycles | 0x058 => some .histWptr | 0x05C => some .histFill
  | 0x060 => some .novWptr
  | _ => none

/-- The result scalars by offset (10_state.md R82 to R84). -/
def resAt : Nat → Option ResReg
  | 0x100 => some .seq | 0x104 => some .novelty | 0x108 => some .bpm | 0x10C => some .phase01
  | 0x110 => some .confidence | 0x114 => some .flags | 0x118 => some .winner | 0x11C => some .phase
  | 0x120 => some .numErr | 0x124 => some .hopCount | 0x128 => some .nfMask0 | 0x12C => some .nfMask1
  | 0x130 => some .powerSum | 0x134 => some .flux
  | _ => none

/-- The working scalars by offset (10_state.md R91). -/
def workRegAt : Nat → Option WorkReg
  | 0x6600 => some .flux | 0x6604 => some .baseline | 0x6608 => some .novelty | 0x660C => some .xin
  | 0x6610 => some .onset | 0x6614 => some .powerSum | 0x6618 => some .winner | 0x661C => some .conf
  | 0x6620 => some .bpm | 0x6624 => some .tempoOsc | 0x6628 => some .tempoValid | 0x662C => some .phase
  | 0x6630 => some .polarity | 0x6634 => some .phase01 | 0x6638 => some .locked | 0x663C => some .bpmRej
  | 0x6640 => some .nfMask0 | 0x6644 => some .nfMask1
  | _ => none

/-- The working-state words by offset (10_state.md R87 to R93). -/
def workAt (a : Nat) : Option WorkWord :=
  ((elemAt 0x6000 64 a).map (.bin .raw))
  <|> ((elemAt 0x6100 64 a).map (.bin .mag))
  <|> ((elemAt 0x6200 64 a).map (.bin .fast))
  <|> ((elemAt 0x6300 64 a).map (.bin .slow))
  <|> ((elemAt 0x6400 64 a).map (.bin .prev))
  <|> ((elemAt 0x6500 4 a).map .zone)
  <|> ((workRegAt a).map .scalar)
  <|> ((elemAt 0x6800 121 a).map (.osc .re))
  <|> ((elemAt 0x6A00 121 a).map (.osc .im))
  <|> ((elemAt 0x6C00 121 a).map (.osc .raw))
  <|> ((elemAt 0x6E00 121 a).map (.osc .smooth))
  <|> ((elemAt 0x7000 121 a).map (.osc .phase))
  <|> ((elemAt 0x7200 121 a).map (.osc .contrib))
  <|> ((elemAt 0x7400 121 a).map (.osc .active))
  <|> ((elemAt 0x7600 128 a).map .nov)
  <|> ((elemAt 0x8000 2048 a).map .hist)
  <|> ((elemAt 0xA000 128 a).map .stage)

/-- The byte offset of a result scalar (10_state.md R82 to R84). -/
def ResReg.offset : ResReg → Nat
  | .seq => 0x100 | .novelty => 0x104 | .bpm => 0x108 | .phase01 => 0x10C | .confidence => 0x110 | .flags => 0x114
  | .winner => 0x118 | .phase => 0x11C | .numErr => 0x120 | .hopCount => 0x124 | .nfMask0 => 0x128 | .nfMask1 => 0x12C
  | .powerSum => 0x130 | .flux => 0x134

/-- The byte offset of element 0 of a per-bin result array (10_state.md R85). -/
def ResTable.base : ResTable → Nat
  | .mag => 0x200 | .fast => 0x300 | .slow => 0x400

/-- The byte offset of element 0 of a per-bin working array (10_state.md R89). -/
def WorkTable.base : WorkTable → Nat
  | .raw => 0x6000 | .mag => 0x6100 | .fast => 0x6200 | .slow => 0x6300 | .prev => 0x6400

/-- The byte offset of a working scalar (10_state.md R91). -/
def WorkReg.offset : WorkReg → Nat
  | .flux => 0x6600 | .baseline => 0x6604 | .novelty => 0x6608 | .xin => 0x660C | .onset => 0x6610 | .powerSum => 0x6614
  | .winner => 0x6618 | .conf => 0x661C | .bpm => 0x6620 | .tempoOsc => 0x6624 | .tempoValid => 0x6628 | .phase => 0x662C
  | .polarity => 0x6630 | .phase01 => 0x6634 | .locked => 0x6638 | .bpmRej => 0x663C | .nfMask0 => 0x6640
  | .nfMask1 => 0x6644

/-- The byte offset of element 0 of a per-oscillator working array (10_state.md R92). -/
def OscArray.base : OscArray → Nat
  | .re => 0x6800 | .im => 0x6A00 | .raw => 0x6C00 | .smooth => 0x6E00 | .phase => 0x7000 | .contrib => 0x7200
  | .active => 0x7400

/-- The byte offset of a working-state word (10_state.md R87 to R93). -/
def WorkWord.offset : WorkWord → Nat
  | .bin t k => t.base + 4 * k.val
  | .zone z => 0x6500 + 4 * z.val
  | .scalar r => r.offset
  | .osc t m => t.base + 4 * m.val
  | .nov j => 0x7600 + 4 * j.val
  | .hist i => 0x8000 + 4 * i.val
  | .stage i => 0xA000 + 4 * i.val

/-- The byte offset of a mapped word, as the table of 10_state.md R25 lists it: the inverse of `slotAt`. -/
def Slot.offset : Slot → Nat
  | .id => 0x000 | .version => 0x004 | .params0 => 0x008 | .params1 => 0x00C | .params2 => 0x010
  | .ctrl => 0x014 | .cmd => 0x018 | .status => 0x01C | .err => 0x020 | .errInfo => 0x024
  | .cfgFailAddr => 0x028 | .irqEn => 0x02C | .stageCount => 0x030 | .sampleIn => 0x034 | .samplePair => 0x038
  | .dcOffset => 0x03C | .novInject => 0x040 | .elapsedPend => 0x044 | .hopCount => 0x048 | .droppedCount => 0x04C
  | .numErrCount => 0x050 | .lastCycles => 0x054 | .histWptr => 0x058 | .histFill => 0x05C | .novWptr => 0x060
  | .cfg w => w.offset
  | .res r => r.offset
  | .resBin t k => t.base + 4 * k.val
  | .work w => w.offset

/-- The mapped word an offset names; `none` for a misaligned, reserved or unmapped offset (10_state.md R25,
20_memory.md R97, R99). -/
def slotAt (off : Offset) : Option Slot :=
  (controlSlotAt off.toNat)
  <|> ((cfgAt off.toNat).map .cfg)
  <|> ((resAt off.toNat).map .res)
  <|> ((elemAt 0x200 64 off.toNat).map (.resBin .mag))
  <|> ((elemAt 0x300 64 off.toNat).map (.resBin .fast))
  <|> ((elemAt 0x400 64 off.toNat).map (.resBin .slow))
  <|> ((workAt off.toNat).map .work)

/-- `off` is a configuration offset (30_encoding.md R114, row WR_CFG). -/
def isCfgOffset (off : Offset) : Bool := (cfgAt off.toNat).isSome

/-- `off` is DC_OFFSET or NOV_INJECT (30_encoding.md R114, row WR_RUNTIME). -/
def isRuntimeOffset (off : Offset) : Bool := off == dcOffsetOff || off == novInjectOff

/-- `off` is matched by a row of 30_encoding.md R114 above WR_OTHER: a word write there has semantics of its own. -/
def isNamedWrite (off : Offset) : Bool :=
  off == ctrlOff || off == cmdOff || off == statusOff || off == errOff || off == irqEnOff || off == sampleInOff
  || off == samplePairOff || isRuntimeOffset off || isCfgOffset off

end Sys2Proof.Machine
end

