-- ==== Sys2Proof/Syntax.lean ====
section
/-! DEFINITION. The instructions of GFB, one constructor per row of spec/opcode_table.json: the ten commands the engine
executes (format `cmd`) and the eleven host bus accesses (format `bus`), 30_encoding.md R110, R112, R114. -/

namespace Sys2Proof

/-- The width of a host bus access. Only `word` is a legal width; the others act as accesses to an unmapped offset
(20_memory.md R97). -/
inductive AccessSize where
  | word | byte | half
  deriving DecidableEq, Repr

/-- One constructor per row of spec/opcode_table.json. A command takes no operand; a bus write carries its DATA, and its
byte offset where the row covers more than one. -/
inductive Instr where
  /-- Command `0x00` (40_sequencer.md R122). -/
  | nop
  /-- Command `0x01` (41_capture.md R138). -/
  | pushChunk
  /-- Command `0x02` (42_goertzel.md R149). -/
  | runGoertzel
  /-- Command `0x03` (43_onset.md R156). -/
  | runOnset
  /-- Command `0x04` (44_tempo.md R169). -/
  | runTempo
  /-- Command `0x05` (45_commit.md R170). -/
  | commit
  /-- Command `0x06` (40_sequencer.md R126). -/
  | hop
  /-- Command `0x07` (40_sequencer.md R125). -/
  | skipHop
  /-- Command `0x08` (40_sequencer.md R123). -/
  | clearState
  /-- Command `0x09` (40_sequencer.md R124). -/
  | softReset
  /-- Host write of `v` to CTRL (40_sequencer.md R127). -/
  | wrCtrl (v : Word)
  /-- Host write of the command word `v` to CMD (40_sequencer.md R120). -/
  | wrCmd (v : Word)
  /-- Host write of the clear mask `v` to STATUS (40_sequencer.md R131). -/
  | wrStatus (v : Word)
  /-- Host write of the clear mask `v` to ERR (40_sequencer.md R131). -/
  | wrErr (v : Word)
  /-- Host write of `v` to IRQ_EN (40_sequencer.md R132). -/
  | wrIrqEn (v : Word)
  /-- Host write of `v` to SAMPLE_IN (41_capture.md R135). -/
  | wrSampleIn (v : Word)
  /-- Host write of `v` to SAMPLE_PAIR (41_capture.md R136). -/
  | wrSamplePair (v : Word)
  /-- Host write of `v` to DC_OFFSET or NOV_INJECT (40_sequencer.md R130). -/
  | wrRuntime (off : Offset) (v : Word)
  /-- Host write of `v` to a configuration offset (40_sequencer.md R129). -/
  | wrCfg (off : Offset) (v : Word)
  /-- Host write to any other offset, or of another width, or misaligned (40_sequencer.md R133). -/
  | wrOther (size : AccessSize) (off : Offset) (v : Word)
  /-- Host read (40_sequencer.md R134). -/
  | rd (size : AccessSize) (off : Offset)
  deriving DecidableEq, Repr

end Sys2Proof
end

