-- ==== Sys2Proof/WellFormed.lean ====
section
/-! DEFINITION. Which terms of `Instr` are instructions: the operand conditions of the OFFSET column of
30_encoding.md R114. -/

namespace Sys2Proof

/-- The operand conditions of an instruction (30_encoding.md R114): a runtime write names DC_OFFSET or NOV_INJECT, a
configuration write a configuration offset, and WR_OTHER an access no other row covers. -/
def Instr.wf : Instr → Bool
  | .wrRuntime off _ => Machine.isRuntimeOffset off
  | .wrCfg off _ => Machine.isCfgOffset off
  | .wrOther .word off _ => !Machine.isNamedWrite off
  | .wrOther .byte _ _ => true
  | .wrOther .half _ _ => true
  | .nop | .pushChunk | .runGoertzel | .runOnset | .runTempo | .commit | .hop | .skipHop | .clearState | .softReset => true
  | .wrCtrl _ | .wrCmd _ | .wrStatus _ | .wrErr _ | .wrIrqEn _ | .wrSampleIn _ | .wrSamplePair _ => true
  | .rd _ _ => true

/-- A well-formed instruction. -/
abbrev Instr.WellFormed (i : Instr) : Prop := i.wf = true

end Sys2Proof
end

