-- ==== Sys2Proof/Decode.lean ====
section
/-! DEFINITION. Decoding and encoding. A command is its 32-bit command word (30_encoding.md R111). A bus access is a
64-bit record of the fields R110 gives the format `bus`; the spec gives a bus access no bits, so the record's layout is
the model's (notes/assumptions/3.md, DESIGN CHOICE):

    bits 15..0 OFFSET, bit 16 DIR (0 write, 1 read), bits 18..17 width (0 word, 1 byte, 2 half), bits 31..19 zero,
    bits 63..32 DATA (zero for a read).

Words are laid out little-endian (20_memory.md R98), so a command is 4 bytes and a bus access 8. -/

namespace Sys2Proof

/-- Why a run of bytes is no instruction. -/
inductive DecodeError where
  /-- The word is a reserved command word: MBZ is not 0 or OP is above `0x09` (30_encoding.md R113). -/
  | reservedCommand (w : Word)
  /-- The width field of a bus record is 3, which stands for no width. -/
  | reservedWidth
  /-- Bits 31..19 of a bus record are not zero. -/
  | reservedBits
  /-- A read record carries DATA. -/
  | readWithData
  /-- Neither 4 nor 8 bytes: neither format of R110. -/
  | length (n : Nat)
  deriving DecidableEq, Repr

/-! ## Bytes -/

/-- The `n` low bytes of a number, least significant first (20_memory.md R98). -/
def bytesOf : Nat → Nat → List Byte
  | 0, _ => []
  | n + 1, v => BitVec.ofNat 8 v :: bytesOf n (v / 256)

/-- The number whose little-endian bytes these are (20_memory.md R98). -/
def numberOf : List Byte → Nat
  | [] => 0
  | b :: bs => b.toNat + 256 * numberOf bs

/-! ## Commands -/

/-- The opcode map of 30_encoding.md R112. -/
def decodeOp : Nat → Option Instr
  | 0x00 => some .nop
  | 0x01 => some .pushChunk
  | 0x02 => some .runGoertzel
  | 0x03 => some .runOnset
  | 0x04 => some .runTempo
  | 0x05 => some .commit
  | 0x06 => some .hop
  | 0x07 => some .skipHop
  | 0x08 => some .clearState
  | 0x09 => some .softReset
  | _ => none

/-- A command word: legal when MBZ = 0 and OP is one of the ten opcodes (30_encoding.md R111). -/
def decodeCommand (w : Word) : Except DecodeError Instr :=
  if w.extractLsb' 8 24 ≠ 0#24 then .error (.reservedCommand w)
  else match decodeOp (w.extractLsb' 0 8).toNat with
    | some i => .ok i
    | none => .error (.reservedCommand w)

/-! ## Bus accesses -/

/-- Fields of a bus record. -/
def recordOffset (r : BitVec 64) : Offset := r.extractLsb' 0 16
/-- DIR: 1 is a read. -/
def recordRead (r : BitVec 64) : Bool := r.getLsbD 16
/-- The width code. -/
def recordWidth (r : BitVec 64) : BitVec 2 := r.extractLsb' 17 2
/-- The bits that must be zero. -/
def recordZero (r : BitVec 64) : BitVec 13 := r.extractLsb' 19 13
/-- DATA. -/
def recordData (r : BitVec 64) : Word := r.extractLsb' 32 32

/-- The width a width code stands for. -/
def sizeOfCode (c : BitVec 2) : Option AccessSize :=
  if c = 0#2 then some .word else if c = 1#2 then some .byte else if c = 2#2 then some .half else none

/-- The code of a width. -/
def codeOfSize : AccessSize → BitVec 2
  | .word => 0#2
  | .byte => 1#2
  | .half => 2#2

/-- The instruction a word write is, by OFFSET (30_encoding.md R114). -/
def decodeWordWrite (off : Offset) (v : Word) : Instr :=
  if off = Machine.ctrlOff then .wrCtrl v
  else if off = Machine.cmdOff then .wrCmd v
  else if off = Machine.statusOff then .wrStatus v
  else if off = Machine.errOff then .wrErr v
  else if off = Machine.irqEnOff then .wrIrqEn v
  else if off = Machine.sampleInOff then .wrSampleIn v
  else if off = Machine.samplePairOff then .wrSamplePair v
  else if Machine.isRuntimeOffset off then .wrRuntime off v
  else if Machine.isCfgOffset off then .wrCfg off v
  else .wrOther .word off v

/-- The instruction a write of a given width is (30_encoding.md R114, 20_memory.md R97). -/
def decodeWrite (size : AccessSize) (off : Offset) (v : Word) : Instr :=
  match size with
  | .word => decodeWordWrite off v
  | .byte => .wrOther .byte off v
  | .half => .wrOther .half off v

/-- A bus record (30_encoding.md R110, R114). -/
def decodeAccess (r : BitVec 64) : Except DecodeError Instr :=
  if recordZero r ≠ 0#13 then .error .reservedBits
  else match sizeOfCode (recordWidth r) with
    | none => .error .reservedWidth
    | some size =>
      if recordRead r then
        if recordData r = 0#32 then .ok (.rd size (recordOffset r)) else .error .readWithData
      else .ok (decodeWrite size (recordOffset r) (recordData r))

/-! ## The decoder -/

/-- The instruction a run of bytes is: 4 bytes are a command word, 8 a bus record (30_encoding.md R110). -/
def decode (bs : List Byte) : Except DecodeError Instr :=
  if bs.length = 4 then decodeCommand (BitVec.ofNat 32 (numberOf bs))
  else if bs.length = 8 then decodeAccess (BitVec.ofNat 64 (numberOf bs))
  else .error (.length bs.length)

/-- The bytes of a command word (20_memory.md R98). -/
def commandBytes (w : Word) : List Byte := bytesOf 4 w.toNat

/-- The bytes of a bus record (20_memory.md R98). -/
def accessBytes (r : BitVec 64) : List Byte := bytesOf 8 r.toNat

/-! ## The encoder -/

/-- A write record. -/
def writeRecord (size : AccessSize) (off : Offset) (v : Word) : BitVec 64 :=
  v ++ 0#13 ++ codeOfSize size ++ 0#1 ++ off

/-- A read record. -/
def readRecord (size : AccessSize) (off : Offset) : BitVec 64 :=
  0#32 ++ 0#13 ++ codeOfSize size ++ 1#1 ++ off

/-- The bytes of a word write. -/
def encodeWordWrite (off : Offset) (v : Word) : List Byte := accessBytes (writeRecord .word off v)

/-- The bytes of an instruction, from the encoding tables of 30_encoding.md R112 and R114. -/
def encode : Instr → List Byte
  | .nop => commandBytes 0x00000000#32
  | .pushChunk => commandBytes 0x00000001#32
  | .runGoertzel => commandBytes 0x00000002#32
  | .runOnset => commandBytes 0x00000003#32
  | .runTempo => commandBytes 0x00000004#32
  | .commit => commandBytes 0x00000005#32
  | .hop => commandBytes 0x00000006#32
  | .skipHop => commandBytes 0x00000007#32
  | .clearState => commandBytes 0x00000008#32
  | .softReset => commandBytes 0x00000009#32
  | .wrCtrl v => encodeWordWrite 0x014#16 v
  | .wrCmd v => encodeWordWrite 0x018#16 v
  | .wrStatus v => encodeWordWrite 0x01C#16 v
  | .wrErr v => encodeWordWrite 0x020#16 v
  | .wrIrqEn v => encodeWordWrite 0x02C#16 v
  | .wrSampleIn v => encodeWordWrite 0x034#16 v
  | .wrSamplePair v => encodeWordWrite 0x038#16 v
  | .wrRuntime off v => encodeWordWrite off v
  | .wrCfg off v => encodeWordWrite off v
  | .wrOther size off v => accessBytes (writeRecord size off v)
  | .rd size off => accessBytes (readRecord size off)

/-! ## The opcode table's numbering -/

/-- The bytes of a table word: a `cmd` row gives 32 bits, the command word; a `bus` row gives the low bits of a bus
record, whose OFFSET is bits 15..0, and every bit above `nbits` is zero. -/
def tableBytes (nbits w : Nat) : List Byte :=
  if 16 < nbits ∧ nbits ≤ 32 then commandBytes (BitVec.ofNat 32 w) else accessBytes (BitVec.ofNat 64 (w % 2 ^ nbits))

/-- The instruction the decoder reads from a word numbered as spec/opcode_table.json numbers it. -/
def decodeTableWord (nbits w : Nat) : Option Instr :=
  match decode (tableBytes nbits w) with
  | .ok i => some i
  | .error _ => none

end Sys2Proof
end

