-- ==== Sys2Proof/Machine/State.lean ====
section
/-! DEFINITION. The machine's state, as plain data: every register and array of 10_state.md, and the model's own fields
(what the host has still to do, who moves next, the count of values drawn, what the last read returned). A field's type
is the field's width in the spec, so a reserved bit has no place to hold a value (00_scope.md R11). -/

namespace Sys2Proof.Machine

/-- The configuration: scalars (10_state.md section 5) and tables (section 6). -/
structure Cfg where
  /-- ACT_THRESH (R49). -/
  actThresh : Word
  /-- ACT_KEEP (R50). -/
  actKeep : Word
  /-- ACT_GAIN (R51). -/
  actGain : Word
  /-- INACT_DECAY (R52). -/
  inactDecay : Word
  /-- FAST_ATTACK (R53). -/
  fastAttack : Word
  /-- FAST_RELEASE (R54). -/
  fastRelease : Word
  /-- SLOW_ATTACK (R55). -/
  slowAttack : Word
  /-- SLOW_RELEASE (R56). -/
  slowRelease : Word
  /-- AGC_DECAY (R57). -/
  agcDecay : Word
  /-- AGC_FLOOR (R58). -/
  agcFloor : Word
  /-- NOV_DECAY (R59). -/
  novDecay : Word
  /-- NOV_EPS (R60). -/
  novEps : Word
  /-- ONSET_RATIO (R61). -/
  onsetRatio : Word
  /-- ONSET_MIN (R62). -/
  onsetMin : Word
  /-- RES_DECAY (R63). -/
  resDecay : Word
  /-- RES_IN (R64). -/
  resIn : Word
  /-- OSC_GAIN (R65). -/
  oscGain : Word
  /-- CONF_EPS (R66). -/
  confEps : Word
  /-- BPM_MIN (R67). -/
  bpmMin : Word
  /-- BPM_MAX (R68). -/
  bpmMax : Word
  /-- PLL_KP (R69). -/
  pllKp : Word
  /-- LOCK_THRESH (R70). -/
  lockThresh : Word
  /-- NOV_BASE_LEN (R71). -/
  novBaseLen : Word
  /-- BIN_FREQ (R72). -/
  binFreq : Vector Word 64
  /-- BIN_COS (R73). -/
  binCos : Vector Word 64
  /-- BIN_SIN (R74). -/
  binSin : Vector Word 64
  /-- BIN_N (R75). -/
  binN : Vector Word 64
  /-- BIN_GAIN (R76). -/
  binGain : Vector Word 64
  /-- OSC_BPM (R77). -/
  oscBpm : Vector Word 121
  /-- OSC_OMEGA (R78). -/
  oscOmega : Vector Word 121
  /-- OSC_COS (R79). -/
  oscCos : Vector Word 121
  /-- OSC_SIN (R80). -/
  oscSin : Vector Word 121
  /-- WIN_LUT (R81). -/
  winLut : Vector Word 4096
  deriving DecidableEq, Repr

/-- The dynamic state, which CLEAR_STATE, a successful enable and reset zero (40_sequencer.md R123). -/
structure Dyn where
  /-- STAGE (R88). -/
  stage : Vector Word 128
  /-- STAGE_COUNT, 0..128 (R36). -/
  stageCount : Fin 129
  /-- HIST (R87). -/
  hist : Vector Word 2048
  /-- HIST_WPTR (R46). -/
  histWptr : Fin 2048
  /-- HIST_FILL, 0..2048 (R47). -/
  histFill : Fin 2049
  /-- W_RAW (R89). -/
  wRaw : Vector Word 64
  /-- W_MAG (R89). -/
  wMag : Vector Word 64
  /-- W_FAST (R89). -/
  wFast : Vector Word 64
  /-- W_SLOW (R89). -/
  wSlow : Vector Word 64
  /-- PREV_MAG (R89). -/
  prevMag : Vector Word 64
  /-- ZONE_LEVEL (R90). -/
  zoneLevel : Vector Word 4
  /-- W_FLUX (R91). -/
  wFlux : Word
  /-- W_BASELINE (R91). -/
  wBaseline : Word
  /-- W_NOVELTY (R91). -/
  wNovelty : Word
  /-- W_XIN (R91). -/
  wXin : Word
  /-- W_ONSET (R91). -/
  wOnset : Bool
  /-- W_POWER_SUM (R91). -/
  wPowerSum : Word
  /-- W_WINNER (R91). -/
  wWinner : Fin 121
  /-- W_CONF (R91). -/
  wConf : Word
  /-- W_BPM (R91). -/
  wBpm : Word
  /-- TEMPO_OSC (R91). -/
  tempoOsc : Fin 121
  /-- TEMPO_VALID (R91). -/
  tempoValid : Bool
  /-- W_PHASE (R91). -/
  wPhase : Word
  /-- W_POLARITY (R91). -/
  wPolarity : Bool
  /-- W_PHASE01 (R91). -/
  wPhase01 : Word
  /-- W_LOCKED (R91). -/
  wLocked : Bool
  /-- W_BPM_REJ (R91). -/
  wBpmRej : Bool
  /-- W_NF_MASK0 (R91). -/
  wNfMask0 : Word
  /-- W_NF_MASK1 (R91). -/
  wNfMask1 : Word
  /-- OSC_RE (R92). -/
  oscRe : Vector Word 121
  /-- OSC_IM (R92). -/
  oscIm : Vector Word 121
  /-- OSC_RAW (R92). -/
  oscRaw : Vector Word 121
  /-- OSC_SMOOTH (R92). -/
  oscSmooth : Vector Word 121
  /-- OSC_PHASE (R92). -/
  oscPhase : Vector Word 121
  /-- OSC_CONTRIB (R92). -/
  oscContrib : Vector Word 121
  /-- OSC_ACTIVE (R92). -/
  oscActive : Vector Bool 121
  /-- NOV_HIST (R93). -/
  novHist : Vector Word 128
  /-- NOV_WPTR (R48). -/
  novWptr : Fin 128
  /-- ELAPSED_PEND, 0..7 (R41). -/
  elapsedPend : Fin 8
  deriving DecidableEq, Repr

/-- The result bank (10_state.md section 7). -/
structure Results where
  /-- RESULT_SEQ (R82). -/
  seq : Word
  /-- R_NOVELTY (R83). -/
  novelty : Word
  /-- R_BPM (R83). -/
  bpm : Word
  /-- R_PHASE01 (R83). -/
  phase01 : Word
  /-- R_CONFIDENCE (R83). -/
  confidence : Word
  /-- R_FLAGS[5:0] (R84). -/
  flags : BitVec 6
  /-- R_WINNER (R83). -/
  winner : Fin 121
  /-- R_PHASE (R83). -/
  phase : Word
  /-- R_NUM_ERR (R83). -/
  numErr : Word
  /-- R_HOP_COUNT (R83). -/
  hopCount : Word
  /-- R_NF_MASK0 (R83). -/
  nfMask0 : Word
  /-- R_NF_MASK1 (R83). -/
  nfMask1 : Word
  /-- R_POWER_SUM (R83). -/
  powerSum : Word
  /-- R_FLUX (R83). -/
  flux : Word
  /-- R_MAG (R85). -/
  mag : Vector Word 64
  /-- R_FAST (R85). -/
  fast : Vector Word 64
  /-- R_SLOW (R85). -/
  slow : Vector Word 64
  deriving DecidableEq, Repr

/-- The two agents (00_scope.md R20). -/
inductive Agent where
  | host | engine
  deriving DecidableEq, Repr

/-- The whole machine. STATUS's other bits are views of these fields (Machine/Flags.lean), and the constant registers
ID, VERSION and PARAMS0..2 are constants of Config. -/
structure State where
  /-- CTRL[4:0]: ENABLE, AGC_EN, FLUX_MODE, NOV_NORM, NOV_SRC (R29). -/
  ctrl : BitVec 5
  /-- STATUS[0] BUSY (R31, R23). -/
  busy : Bool
  /-- PENDING_CMD, the accepted command's opcode; meaningful while BUSY = 1 (R23). -/
  pendingCmd : BitVec 8
  /-- STATUS[1] DONE (R31). -/
  done : Bool
  /-- STATUS[2] ONSET_EVT (R31). -/
  onsetEvt : Bool
  /-- ERR[10:0] (R32). -/
  err : BitVec 11
  /-- ERR_INFO.LAST_CODE (R33). -/
  lastCode : BitVec 5
  /-- CFG_FAIL_ADDR (R34). -/
  cfgFailAddr : Word
  /-- IRQ_EN[2:0]: DONE_IE, ERR_IE, ONSET_IE (R35). -/
  irqEn : BitVec 3
  /-- DC_OFFSET (R39). -/
  dcOffset : Word
  /-- NOV_INJECT (R40). -/
  novInject : Word
  /-- HOP_COUNT (R42). -/
  hopCount : Word
  /-- DROPPED_COUNT (R43). -/
  droppedCount : Word
  /-- NUM_ERR_COUNT (R44). -/
  numErrCount : Word
  /-- LAST_CYCLES (R45). -/
  lastCycles : Word
  /-- The configuration registers and tables. -/
  cfg : Cfg
  /-- The dynamic state. -/
  dyn : Dyn
  /-- The result bank. -/
  res : Results
  /-- The model's own: the bus accesses the host has still to issue, in its program order, as bus records (R20, R104). -/
  port : List (BitVec 64)
  /-- The model's own: while a command runs and the host has an access to issue, who moves next; when the list is used
  up the engine does (R104, R199: the order is not specified). -/
  turns : List Agent
  /-- The model's own: how many free values have been drawn (R45, R86, R115). -/
  draws : Nat
  /-- The model's own: the value the last host read returned (R134). -/
  readData : Word
  deriving DecidableEq, Repr

/-- Why the machine stops. -/
inductive Fault where
  /-- Raised by `step` when BUSY = 1 and PENDING_CMD holds no opcode. Acceptance never latches such an opcode (R120), so
  only a state that no run reaches raises it. Safe. -/
  | corruptLatch (op : BitVec 8)
  deriving DecidableEq, Repr

/-- Why an instruction is not run. -/
inductive Refusal where
  /-- Raised by `exec` for an instruction that has no meaning yet. Safe. -/
  | notModelled (mnemonic : String)
  /-- Raised by `step` when the next record of the host's list is no bus access: the record's layout is the model's, and
  a record outside it stands for nothing a host can do. Safe. -/
  | notAnAccess (e : DecodeError)
  /-- Raised by the meaning of a bus write whose offset is not one of its row's (30_encoding.md R114): the term is not
  well formed and the decoder never answers it. Safe. -/
  | illFormed
  deriving DecidableEq, Repr

/-! ## Reset (70_reset_and_hazards.md R189) -/

/-- The configuration at reset: every scalar its listed default, every table zero (10_state.md sections 5 and 6, R191). -/
def Cfg.reset : Cfg where
  actThresh := 0x3BA3D70A#32
  actKeep := 0x3F79999A#32
  actGain := 0x3CCCCCCD#32
  inactDecay := 0x3F7EB852#32
  fastAttack := 0x3E19999A#32
  fastRelease := 0x3CF5C28F#32
  slowAttack := 0x3DA3D70A#32
  slowRelease := 0x3C75C28F#32
  agcDecay := 0x3F7EB852#32
  agcFloor := 0x3A83126F#32
  novDecay := 0x3F7EB852#32
  novEps := 0x358637BD#32
  onsetRatio := 0x3FC00000#32
  onsetMin := 0x3A83126F#32
  resDecay := 0x3F7D70A4#32
  resIn := 0x3C23D70A#32
  oscGain := 0x41000000#32
  confEps := 0x358637BD#32
  bpmMin := 0x42700000#32
  bpmMax := 0x43960000#32
  pllKp := 0x00000000#32
  lockThresh := 0x3CA3D70A#32
  novBaseLen := 0x00000010#32
  binFreq := Vector.replicate 64 0#32
  binCos := Vector.replicate 64 0#32
  binSin := Vector.replicate 64 0#32
  binN := Vector.replicate 64 0#32
  binGain := Vector.replicate 64 0#32
  oscBpm := Vector.replicate 121 0#32
  oscOmega := Vector.replicate 121 0#32
  oscCos := Vector.replicate 121 0#32
  oscSin := Vector.replicate 121 0#32
  winLut := Vector.replicate 4096 0#32

/-- The cleared dynamic state: everything zero (40_sequencer.md R123, 10_state.md section 8). -/
def Dyn.reset : Dyn where
  stage := Vector.replicate 128 0#32
  stageCount := 0
  hist := Vector.replicate 2048 0#32
  histWptr := 0
  histFill := 0
  wRaw := Vector.replicate 64 0#32
  wMag := Vector.replicate 64 0#32
  wFast := Vector.replicate 64 0#32
  wSlow := Vector.replicate 64 0#32
  prevMag := Vector.replicate 64 0#32
  zoneLevel := Vector.replicate 4 0#32
  wFlux := 0#32
  wBaseline := 0#32
  wNovelty := 0#32
  wXin := 0#32
  wOnset := false
  wPowerSum := 0#32
  wWinner := 0
  wConf := 0#32
  wBpm := 0#32
  tempoOsc := 0
  tempoValid := false
  wPhase := 0#32
  wPolarity := false
  wPhase01 := 0#32
  wLocked := false
  wBpmRej := false
  wNfMask0 := 0#32
  wNfMask1 := 0#32
  oscRe := Vector.replicate 121 0#32
  oscIm := Vector.replicate 121 0#32
  oscRaw := Vector.replicate 121 0#32
  oscSmooth := Vector.replicate 121 0#32
  oscPhase := Vector.replicate 121 0#32
  oscContrib := Vector.replicate 121 0#32
  oscActive := Vector.replicate 121 false
  novHist := Vector.replicate 128 0#32
  novWptr := 0
  elapsedPend := 0

/-- The result bank at reset: all zero (10_state.md section 7). -/
def Results.reset : Results where
  seq := 0#32
  novelty := 0#32
  bpm := 0#32
  phase01 := 0#32
  confidence := 0#32
  flags := 0#6
  winner := 0
  phase := 0#32
  numErr := 0#32
  hopCount := 0#32
  nfMask0 := 0#32
  nfMask1 := 0#32
  powerSum := 0#32
  flux := 0#32
  mag := Vector.replicate 64 0#32
  fast := Vector.replicate 64 0#32
  slow := Vector.replicate 64 0#32

/-- The machine right after power-on reset (70_reset_and_hazards.md R189). The host's list is empty: what the host does
comes from outside the machine (notes/assumptions/2.md). -/
def State.reset : State where
  ctrl := 0#5
  busy := false
  pendingCmd := 0x00#8
  done := false
  onsetEvt := false
  err := 0#11
  lastCode := 0#5
  cfgFailAddr := 0xFFFFFFFF#32
  irqEn := 0#3
  dcOffset := 0#32
  novInject := 0#32
  hopCount := 0#32
  droppedCount := 0#32
  numErrCount := 0#32
  lastCycles := 0#32
  cfg := Cfg.reset
  dyn := Dyn.reset
  res := Results.reset
  port := []
  turns := []
  draws := 0
  readData := 0#32

end Sys2Proof.Machine
end

