-- ==== Sys2Proof/Machine/Operands.lean ====
section
/-! DEFINITION. Operand forms and value encodings (30_encoding.md R111, R114 to R117): the fields of a command word and of
a sample word, one-bit words, integer words, the two kinds of counter, and reading a register as a binary32. -/

namespace Sys2Proof.Machine

/-- OP, bits [7:0] of a command word (R111). -/
def commandOp (v : Word) : BitVec 8 := v.extractLsb' 0 8

/-- MBZ, bits [31:8] of a command word (R111). -/
def commandMbz (v : Word) : BitVec 24 := v.extractLsb' 8 24

/-- The first sample field, bits [15:0] (R114). -/
def lowSample (v : Word) : BitVec 16 := v.extractLsb' 0 16

/-- The second sample field of SAMPLE_PAIR, bits [31:16] (R114). -/
def highSample (v : Word) : BitVec 16 := v.extractLsb' 16 16

/-- A 16-bit sample as the staging buffer holds it: sign-extended to 32 bits (R116). -/
def sext16 (h : BitVec 16) : Word := h.signExtend 32

/-- The integer a staged word's low half stands for, `sext_16(STAGE[i][15:0])` (00_scope.md R12). -/
def sampleOf (w : Word) : Int := (lowSample w).toInt

/-- A register read as a binary32 (R115). -/
def val (w : Word) : F32 := F32.ofBits w

/-- A one-bit state word holds its bit in [0] (R117). -/
def bitWord (b : Bool) : Word := if b then 1#32 else 0#32

/-- An integer register holds an unsigned number in its low bits (R117). -/
def natWord (n : Nat) : Word := BitVec.ofNat 32 n

/-- A counter that saturates at `0xFFFFFFFF` (00_scope.md R12). -/
def satIncr (w : Word) : Word := if w = 0xFFFFFFFF#32 then w else w + 1#32

/-- A counter that wraps modulo 2^32 (00_scope.md R12). -/
def wrapIncr (w : Word) : Word := w + 1#32

/-- A 32-bit mask from a test of its bits. -/
def maskWord (f : Fin 32 → Bool) : Word := BitVec.ofFnLE f

end Sys2Proof.Machine
end

