-- ==== Sys2Proof/Machine/Flags.lean ====
section
/-! DEFINITION. Flags: the CTRL mode bits, the error conditions and what raising one does, numeric faults, the STATUS word
and its mirrors, the interrupt line and the flag word COMMIT publishes (10_state.md R29, R31, R84; 60_exceptions.md R175
to R180). GFB takes no trap (R181): raising an error is its exception entry, and a W1C write its return (R182). -/

namespace Sys2Proof.Machine

/-! ## CTRL fields (10_state.md R29) -/

/-- CTRL.ENABLE. -/
def State.enabled (s : State) : Bool := s.ctrl.getLsbD 0
/-- CTRL.AGC_EN. -/
def State.agcEn (s : State) : Bool := s.ctrl.getLsbD 1
/-- CTRL.FLUX_MODE. -/
def State.fluxMode (s : State) : Bool := s.ctrl.getLsbD 2
/-- CTRL.NOV_NORM. -/
def State.novNorm (s : State) : Bool := s.ctrl.getLsbD 3
/-- CTRL.NOV_SRC. -/
def State.novSrc (s : State) : Bool := s.ctrl.getLsbD 4
/-- CTRL[4:1], the configuration bits. -/
def State.modeBits (s : State) : BitVec 4 := s.ctrl.extractLsb' 1 4

/-- A CTRL value from its mode bits and ENABLE. -/
def ctrlOf (mode : BitVec 4) (enable : Bool) : BitVec 5 := mode ++ BitVec.ofBool enable

/-! ## Errors (60_exceptions.md R175) -/

/-- The eleven error conditions. -/
inductive Err where
  | illegalCmd | cmdBusy | notEnabled | stageUnderrun | stageOverflow | cfgLocked | cfgInvalid | busyWrite | bus
  | numeric | bpmReject
  deriving DecidableEq, Repr

/-- The ERR bit of an error (R175). -/
def Err.bit : Err → Nat
  | .illegalCmd => 0 | .cmdBusy => 1 | .notEnabled => 2 | .stageUnderrun => 3 | .stageOverflow => 4
  | .cfgLocked => 5 | .cfgInvalid => 6 | .busyWrite => 7 | .bus => 8 | .numeric => 9 | .bpmReject => 10

/-- The code of an error: its bit plus one (R175). -/
def Err.code (e : Err) : BitVec 5 := BitVec.ofNat 5 (e.bit + 1)

/-- The ERR word with only this error's bit set. -/
def Err.mask (e : Err) : BitVec 11 := 1#11 <<< e.bit

/-- `raise Err(NAME)`: the sticky bit and LAST_CODE, nothing else (60_exceptions.md R176). This is the one shared
operation of every error of the machine; ERR_ANY and IRQ are views of ERR. -/
def State.raiseErr (s : State) (e : Err) : State := { s with err := s.err ||| e.mask, lastCode := e.code }

/-- `numfault()`: count one numeric fault, saturating, and raise NUMERIC (60_exceptions.md R177). -/
def State.numfault (s : State) : State := { s with numErrCount := satIncr s.numErrCount }.raiseErr .numeric

/-- `n` numeric faults, each counted once (60_exceptions.md R177). -/
def State.numfaults (s : State) : Nat → State
  | 0 => s
  | n + 1 => (s.numfault).numfaults n

/-- A numeric fault if the test fires. -/
def State.numfaultIf (s : State) (b : Bool) : State := if b then s.numfault else s

/-! ## Acknowledging (40_sequencer.md R131, 60_exceptions.md R182) -/

/-- A W1C write to STATUS. -/
def State.ackStatus (s : State) (v : Word) : State :=
  { s with done := s.done && !v.getLsbD 1, onsetEvt := s.onsetEvt && !v.getLsbD 2 }

/-- A W1C write to ERR. -/
def State.ackErr (s : State) (v : Word) : State := { s with err := s.err &&& ~~~(v.extractLsb' 0 11) }

/-! ## STATUS and the interrupt (10_state.md R31, 60_exceptions.md R180) -/

/-- STATUS.ERR_ANY. -/
def State.errAny (s : State) : Bool := s.err != 0#11
/-- STATUS.HIST_FULL. -/
def State.histFull (s : State) : Bool := s.dyn.histFill.val == 2048
/-- STATUS.STAGE_FULL. -/
def State.stageFull (s : State) : Bool := s.dyn.stageCount.val == 128

/-- The level of the IRQ output (R180). -/
def State.irq (s : State) : Bool :=
  (s.done && s.irqEn.getLsbD 0) || (s.errAny && s.irqEn.getLsbD 1) || (s.onsetEvt && s.irqEn.getLsbD 2)

/-- The host interrupt the platform sees asserted, if any (60_exceptions.md R185). -/
def State.interrupt (s : State) : Option Nat := if s.irq then some Config.irqLine else none

/-- STATUS (R31). -/
def State.statusWord (s : State) : Word :=
  (BitVec.ofBoolListLE [s.busy, s.done, s.onsetEvt, s.errAny, s.histFull, s.stageFull, s.enabled, s.irq]).setWidth 32

/-- The bits COMMIT publishes in R_FLAGS[5:0] (45_commit.md R170). -/
def Dyn.flagBits (d : Dyn) : BitVec 6 :=
  BitVec.ofBoolListLE
    [d.wOnset, d.wPolarity, d.tempoValid, d.wLocked, d.wNfMask0 != 0#32 || d.wNfMask1 != 0#32, d.wBpmRej]

end Sys2Proof.Machine
end

