-- ==== Sys2Proof/Machine/Ops.lean ====
section
/-! DEFINITION. The operations instructions share: the value of every mapped word (40_sequencer.md R134), reading and
writing a configuration word (R129), the enable check (R128), clearing the dynamic state (R123), staging a sample
(41_capture.md R135), accepting a command (R120) and completing one (R121). -/

namespace Sys2Proof.Machine

/-! ## Configuration words -/

/-- The value of a configuration scalar. -/
def Cfg.getReg (c : Cfg) : CfgReg → Word
  | .actThresh => c.actThresh | .actKeep => c.actKeep | .actGain => c.actGain | .inactDecay => c.inactDecay
  | .fastAttack => c.fastAttack | .fastRelease => c.fastRelease | .slowAttack => c.slowAttack
  | .slowRelease => c.slowRelease | .agcDecay => c.agcDecay | .agcFloor => c.agcFloor | .novDecay => c.novDecay
  | .novEps => c.novEps | .onsetRatio => c.onsetRatio | .onsetMin => c.onsetMin | .resDecay => c.resDecay
  | .resIn => c.resIn | .oscGain => c.oscGain | .confEps => c.confEps | .bpmMin => c.bpmMin | .bpmMax => c.bpmMax
  | .pllKp => c.pllKp | .lockThresh => c.lockThresh | .novBaseLen => c.novBaseLen

/-- Write a configuration scalar. -/
def Cfg.setReg (c : Cfg) (r : CfgReg) (v : Word) : Cfg :=
  match r with
  | .actThresh => { c with actThresh := v }
  | .actKeep => { c with actKeep := v }
  | .actGain => { c with actGain := v }
  | .inactDecay => { c with inactDecay := v }
  | .fastAttack => { c with fastAttack := v }
  | .fastRelease => { c with fastRelease := v }
  | .slowAttack => { c with slowAttack := v }
  | .slowRelease => { c with slowRelease := v }
  | .agcDecay => { c with agcDecay := v }
  | .agcFloor => { c with agcFloor := v }
  | .novDecay => { c with novDecay := v }
  | .novEps => { c with novEps := v }
  | .onsetRatio => { c with onsetRatio := v }
  | .onsetMin => { c with onsetMin := v }
  | .resDecay => { c with resDecay := v }
  | .resIn => { c with resIn := v }
  | .oscGain => { c with oscGain := v }
  | .confEps => { c with confEps := v }
  | .bpmMin => { c with bpmMin := v }
  | .bpmMax => { c with bpmMax := v }
  | .pllKp => { c with pllKp := v }
  | .lockThresh => { c with lockThresh := v }
  | .novBaseLen => { c with novBaseLen := v }

/-- A per-bin configuration table. -/
def Cfg.binTable (c : Cfg) : BinTable → Vector Word 64
  | .freq => c.binFreq | .cos => c.binCos | .sin => c.binSin | .n => c.binN | .gain => c.binGain

/-- A per-oscillator configuration table. -/
def Cfg.oscTable (c : Cfg) : OscTable → Vector Word 121
  | .bpm => c.oscBpm | .omega => c.oscOmega | .cos => c.oscCos | .sin => c.oscSin

/-- The value of a configuration word. -/
def Cfg.get (c : Cfg) : CfgWord → Word
  | .scalar r => c.getReg r
  | .bin t k => (c.binTable t)[k]
  | .osc t m => (c.oscTable t)[m]
  | .win j => c.winLut[j]

/-- Write a configuration word (40_sequencer.md R129: `word(a) <- v`). -/
def Cfg.set (c : Cfg) (w : CfgWord) (v : Word) : Cfg :=
  match w with
  | .scalar r => c.setReg r v
  | .bin .freq k => { c with binFreq := c.binFreq.set k v }
  | .bin .cos k => { c with binCos := c.binCos.set k v }
  | .bin .sin k => { c with binSin := c.binSin.set k v }
  | .bin .n k => { c with binN := c.binN.set k v }
  | .bin .gain k => { c with binGain := c.binGain.set k v }
  | .osc .bpm m => { c with oscBpm := c.oscBpm.set m v }
  | .osc .omega m => { c with oscOmega := c.oscOmega.set m v }
  | .osc .cos m => { c with oscCos := c.oscCos.set m v }
  | .osc .sin m => { c with oscSin := c.oscSin.set m v }
  | .win j => { c with winLut := c.winLut.set j v }

/-! ## The enable check (40_sequencer.md R128) -/

/-- "in [0, 1]": `0 <= v and v <= 1`. -/
def inUnit (v : Word) : Bool := F32.zero.le (val v) && (val v).le F32.one
/-- "finite". -/
def isFinite (v : Word) : Bool := (val v).finite
/-- "finite, >= 0". -/
def isNonneg (v : Word) : Bool := (val v).finite && (val v).ge F32.zero
/-- "finite, > 0". -/
def isPositive (v : Word) : Bool := (val v).finite && (val v).gt F32.zero
/-- "1 <= value <= n (unsigned)". -/
def inCount (n : Nat) (v : Word) : Bool := decide (1 ≤ v.toNat) && decide (v.toNat ≤ n)

/-- The check of one configuration scalar (R128). -/
def Cfg.checkReg (c : Cfg) : CfgReg → Bool
  | .actThresh => isNonneg c.actThresh
  | .actKeep => inUnit c.actKeep
  | .actGain => inUnit c.actGain
  | .inactDecay => inUnit c.inactDecay
  | .fastAttack => inUnit c.fastAttack
  | .fastRelease => inUnit c.fastRelease
  | .slowAttack => inUnit c.slowAttack
  | .slowRelease => inUnit c.slowRelease
  | .agcDecay => inUnit c.agcDecay
  | .agcFloor => isPositive c.agcFloor
  | .novDecay => inUnit c.novDecay
  | .novEps => isPositive c.novEps
  | .onsetRatio => isNonneg c.onsetRatio
  | .onsetMin => isNonneg c.onsetMin
  | .resDecay => inUnit c.resDecay
  | .resIn => isFinite c.resIn
  | .oscGain => isNonneg c.oscGain
  | .confEps => isNonneg c.confEps
  | .bpmMin => isFinite c.bpmMin
  | .bpmMax => isFinite c.bpmMax && (val c.bpmMin).le (val c.bpmMax)
  | .pllKp => inUnit c.pllKp
  | .lockThresh => isFinite c.lockThresh
  | .novBaseLen => inCount 128 c.novBaseLen

/-- The check of BIN_FREQ[k]: finite, > 0, and above its predecessor (R128). -/
def Cfg.checkFreq (c : Cfg) (k : Fin 64) : Bool :=
  isPositive c.binFreq[k] &&
    (k.val == 0 || (val c.binFreq[k]).gt (val c.binFreq[k.val - 1]))

/-- The check of one configuration word (R128). -/
def Cfg.check (c : Cfg) : CfgWord → Bool
  | .scalar r => c.checkReg r
  | .bin .freq k => c.checkFreq k
  | .bin .cos k => isFinite c.binCos[k]
  | .bin .sin k => isFinite c.binSin[k]
  | .bin .n k => inCount 2048 c.binN[k]
  | .bin .gain k => isNonneg c.binGain[k]
  | .osc .bpm m => isFinite c.oscBpm[m]
  | .osc .omega m => F32.zero.le (val c.oscOmega[m]) && (val c.oscOmega[m]).le F32.omegaMax
  | .osc .cos m => isFinite c.oscCos[m]
  | .osc .sin m => isFinite c.oscSin[m]
  | .win j => isFinite c.winLut[j]

/-- `Validate()`: the first configuration word, in ascending offset order, whose check fails; `none` is NONE (R128). -/
def Cfg.validate (c : Cfg) : Option CfgWord := CfgWord.all.find? (fun w => !c.check w)

/-! ## The value of every mapped word (40_sequencer.md R134, 10_state.md R25) -/

/-- A result scalar (10_state.md R82 to R84). -/
def Results.get (r : Results) : ResReg → Word
  | .seq => r.seq
  | .novelty => r.novelty
  | .bpm => r.bpm
  | .phase01 => r.phase01
  | .confidence => r.confidence
  | .flags => r.flags.setWidth 32
  | .winner => natWord r.winner.val
  | .phase => r.phase
  | .numErr => r.numErr
  | .hopCount => r.hopCount
  | .nfMask0 => r.nfMask0
  | .nfMask1 => r.nfMask1
  | .powerSum => r.powerSum
  | .flux => r.flux

/-- A per-bin result array (10_state.md R85). -/
def Results.table (r : Results) : ResTable → Vector Word 64
  | .mag => r.mag | .fast => r.fast | .slow => r.slow

/-- A working scalar (10_state.md R91). -/
def Dyn.getReg (d : Dyn) : WorkReg → Word
  | .flux => d.wFlux
  | .baseline => d.wBaseline
  | .novelty => d.wNovelty
  | .xin => d.wXin
  | .onset => bitWord d.wOnset
  | .powerSum => d.wPowerSum
  | .winner => natWord d.wWinner.val
  | .conf => d.wConf
  | .bpm => d.wBpm
  | .tempoOsc => natWord d.tempoOsc.val
  | .tempoValid => bitWord d.tempoValid
  | .phase => d.wPhase
  | .polarity => bitWord d.wPolarity
  | .phase01 => d.wPhase01
  | .locked => bitWord d.wLocked
  | .bpmRej => bitWord d.wBpmRej
  | .nfMask0 => d.wNfMask0
  | .nfMask1 => d.wNfMask1

/-- A per-bin working array (10_state.md R89). -/
def Dyn.binArray (d : Dyn) : WorkTable → Vector Word 64
  | .raw => d.wRaw | .mag => d.wMag | .fast => d.wFast | .slow => d.wSlow | .prev => d.prevMag

/-- An element of a per-oscillator working array (10_state.md R92). -/
def Dyn.oscElem (d : Dyn) (m : Fin 121) : OscArray → Word
  | .re => d.oscRe[m]
  | .im => d.oscIm[m]
  | .raw => d.oscRaw[m]
  | .smooth => d.oscSmooth[m]
  | .phase => d.oscPhase[m]
  | .contrib => d.oscContrib[m]
  | .active => bitWord d.oscActive[m]

/-- A working-state word (10_state.md section 8). -/
def Dyn.get (d : Dyn) : WorkWord → Word
  | .bin t k => (d.binArray t)[k]
  | .zone z => d.zoneLevel[z]
  | .scalar r => d.getReg r
  | .osc t m => d.oscElem m t
  | .nov j => d.novHist[j]
  | .hist i => d.hist[i]
  | .stage i => d.stage[i]

/-- The value a mapped word holds; a write-only register reads 0 (10_state.md R30, R37, R38). -/
def State.word (s : State) : Slot → Word
  | .id => Config.idValue
  | .version => Config.versionValue
  | .params0 => Config.params0Value
  | .params1 => Config.params1Value
  | .params2 => Config.params2Value
  | .ctrl => s.ctrl.setWidth 32
  | .cmd => 0#32
  | .status => s.statusWord
  | .err => s.err.setWidth 32
  | .errInfo => s.lastCode.setWidth 32
  | .cfgFailAddr => s.cfgFailAddr
  | .irqEn => s.irqEn.setWidth 32
  | .stageCount => natWord s.dyn.stageCount.val
  | .sampleIn => 0#32
  | .samplePair => 0#32
  | .dcOffset => s.dcOffset
  | .novInject => s.novInject
  | .elapsedPend => natWord s.dyn.elapsedPend.val
  | .hopCount => s.hopCount
  | .droppedCount => s.droppedCount
  | .numErrCount => s.numErrCount
  | .lastCycles => s.lastCycles
  | .histWptr => natWord s.dyn.histWptr.val
  | .histFill => natWord s.dyn.histFill.val
  | .novWptr => natWord s.dyn.novWptr.val
  | .cfg w => s.cfg.get w
  | .res r => s.res.get r
  | .resBin t k => (s.res.table t)[k]
  | .work w => s.dyn.get w

/-- The value a host read of word offset `off` finds while no draw is due: an unmapped offset reads 0 (R134). -/
def State.wordAt (s : State) (off : Offset) : Word :=
  match slotAt off with
  | none => 0#32
  | some slot => s.word slot

/-- The byte of the window at a byte offset, as a little-endian host with byte addressing views it (20_memory.md R98). -/
def State.byteAt (s : State) (off : Offset) : Byte :=
  (s.wordAt (off &&& 0xFFFC#16)).extractLsb' (8 * (off.toNat % 4)) 8

/-- The platform address of a byte offset (00_scope.md R10). -/
def hostAddress (off : Offset) : Nat := Config.base + off.toNat

/-! ## Clearing, completing and accepting -/

/-- `ClearState()`, the body of CLEAR_STATE and of a successful enable (40_sequencer.md R123, R127). -/
def State.cleared (s : State) : State := { s with dyn := Dyn.reset }

/-- Every register, table, array and latch at its reset value (40_sequencer.md R124). The model's own fields are not the
block's state and stay. -/
def State.softReset (s : State) : State :=
  { State.reset with port := s.port, turns := s.turns, draws := s.draws, readData := s.readData }

/-- Completion of a command (40_sequencer.md R121). -/
def State.complete (s : State) : State :=
  { s with lastCycles := Config.cyclesDraw s.draws, draws := s.draws + 1, busy := false, done := true }

/-- The commands that need ENABLE (30_encoding.md R112). -/
def needsEnable (op : BitVec 8) : Bool := decide (0x01#8 ≤ op) && decide (op ≤ 0x07#8)

/-- Acceptance of the command word `v` (40_sequencer.md R120); the checks run in the order shown. -/
def State.accept (s : State) (v : Word) : State :=
  if s.busy then s.raiseErr .cmdBusy
  else if commandMbz v ≠ 0#24 ∨ 0x09#8 < commandOp v then { s.raiseErr .illegalCmd with done := true }
  else if needsEnable (commandOp v) && !s.enabled then { s.raiseErr .notEnabled with done := true }
  else { s with busy := true, pendingCmd := commandOp v }

/-! ## Staging (41_capture.md R135) -/

/-- The staging buffer emptied: every element 0 and STAGE_COUNT 0 (41_capture.md R138, 40_sequencer.md R125). -/
def Dyn.unstaged (d : Dyn) : Dyn := { d with stage := Vector.replicate 128 0#32, stageCount := 0 }

/-- `StageOne(h)` (R135). -/
def State.stageOne (s : State) (h : BitVec 16) : State :=
  if hc : s.dyn.stageCount.val < 128 then
    { s with dyn := { s.dyn with
        stage := s.dyn.stage.set s.dyn.stageCount.val (sext16 h)
        stageCount := ⟨s.dyn.stageCount.val + 1, by omega⟩ } }
  else s.raiseErr .stageOverflow

/-! ## Fetching what runs next (00_scope.md R20, 20_memory.md R104) -/

/-- What one step runs: nothing, the engine's accepted command, or the host's next bus access; with the bytes of the
instruction and the state it runs in. -/
inductive Fetch where
  | idle
  | engine (bytes : List Byte) (s : State)
  | host (bytes : List Byte) (s : State)

/-- The bytes of the accepted command, `zext_32(PENDING_CMD)` (10_state.md R23, 30_encoding.md R111). -/
def State.pendingBytes (s : State) : List Byte := commandBytes (s.pendingCmd.setWidth 32)

/-- Who moves next, and with what (20_memory.md R104): the host issues its accesses in program order; the engine
completes the accepted command at some point after its acceptance, and `turns` says where among the host's accesses. -/
def State.fetch (s : State) : Fetch :=
  match s.busy, s.port, s.turns with
  | false, [], _ => .idle
  | false, r :: rest, _ => .host (accessBytes r) { s with port := rest }
  | true, [], _ => .engine s.pendingBytes s
  | true, _ :: _, [] => .engine s.pendingBytes s
  | true, _ :: _, .engine :: ts => .engine s.pendingBytes { s with turns := ts }
  | true, r :: rest, .host :: ts => .host (accessBytes r) { s with port := rest, turns := ts }

/-- `s` with the host's next access `r`, and the host to move next. -/
def State.withAccess (s : State) (r : BitVec 64) : State :=
  { s with port := r :: s.port, turns := if s.busy then .host :: s.turns else s.turns }

/-- `s` with the command `op` accepted, and the engine to move next. -/
def State.withCommand (s : State) (op : BitVec 8) : State :=
  { s with busy := true, pendingCmd := op, turns := if s.port.isEmpty then s.turns else .engine :: s.turns }

end Sys2Proof.Machine
end

