-- ==== Sys2Proof/Machine/Bus.lean ====
section
/-! DEFINITION. The host bus accesses (40_sequencer.md sections 1, 3 and 4), but for the sample ports, which are in
Machine/Capture.lean. No access stops the machine: an error is a sticky bit (60_exceptions.md R176). -/

namespace Sys2Proof.Machine

/-- WR_CMD (R120). -/
def execWrCmd (v : Word) (s : State) : Host.Outcome State Fault Refusal := .next (s.accept v)

/-- The mode bits of a written CTRL value, v[4:1]. -/
def modeField (v : Word) : BitVec 4 := v.extractLsb' 1 4

/-- CTRL written while enabled: the mode bits cannot change, and ENABLE may be cleared (R127). -/
def State.writeCtrlEnabled (s : State) (v : Word) : State :=
  let t := if modeField v ≠ s.modeBits then s.raiseErr .cfgLocked else s
  if v.getLsbD 0 then t else { t with ctrl := ctrlOf t.modeBits false }

/-- An enable attempt: the configuration passes its check, the dynamic state is cleared and ENABLE set, or the first word
that fails is recorded (R127, R128). -/
def State.tryEnable (s : State) : State :=
  match s.cfg.validate with
  | none => { s.cleared with cfgFailAddr := 0xFFFFFFFF#32, ctrl := ctrlOf s.modeBits true }
  | some w => { s with cfgFailAddr := natWord w.offset }.raiseErr .cfgInvalid

/-- CTRL written while disabled: the mode bits are written, and ENABLE attempted if v[0] = 1 (R127). -/
def State.writeCtrlDisabled (s : State) (v : Word) : State :=
  let t := { s with ctrl := ctrlOf (modeField v) false }
  if v.getLsbD 0 then t.tryEnable else t

/-- WR_CTRL (R127). -/
def execWrCtrl (v : Word) (s : State) : Host.Outcome State Fault Refusal :=
  .next (
    if s.busy then s.raiseErr .busyWrite
    else if s.enabled then s.writeCtrlEnabled v
    else s.writeCtrlDisabled v)

/-- WR_STATUS (R131). -/
def execWrStatus (v : Word) (s : State) : Host.Outcome State Fault Refusal := .next (s.ackStatus v)

/-- WR_ERR (R131). -/
def execWrErr (v : Word) (s : State) : Host.Outcome State Fault Refusal := .next (s.ackErr v)

/-- WR_IRQ_EN (R132). -/
def execWrIrqEn (v : Word) (s : State) : Host.Outcome State Fault Refusal := .next { s with irqEn := v.extractLsb' 0 3 }

/-- WR_RUNTIME (R130). -/
def execWrRuntime (off : Offset) (v : Word) (s : State) : Host.Outcome State Fault Refusal :=
  if off = dcOffsetOff then .next (if s.busy then s.raiseErr .busyWrite else { s with dcOffset := v })
  else if off = novInjectOff then .next (if s.busy then s.raiseErr .busyWrite else { s with novInject := v })
  else .refused .illFormed

/-- WR_CFG (R129). -/
def execWrCfg (off : Offset) (v : Word) (s : State) : Host.Outcome State Fault Refusal :=
  match cfgAt off.toNat with
  | none => .refused .illFormed
  | some w => .next (
      if s.busy then s.raiseErr .busyWrite
      else if s.enabled then s.raiseErr .cfgLocked
      else { s with cfg := s.cfg.set w v })

/-- WR_OTHER (R133): the data and the offset have no effect. -/
def execWrOther (size : AccessSize) (off : Offset) (_v : Word) (s : State) : Host.Outcome State Fault Refusal :=
  if size = .word ∧ isNamedWrite off = true then .refused .illFormed
  else .next (s.raiseErr (if s.busy then .busyWrite else .bus))

/-- A read of a working-state offset while a command runs: any value (10_state.md R86). -/
def readsDraw (s : State) (size : AccessSize) (off : Offset) : Bool :=
  match size, slotAt off with
  | .word, some (.work _) => s.busy
  | _, _ => false

/-- RD (R134): the value the read returns goes to the host, which the model holds in `readData`; the block's own state
does not change. -/
def execRd (size : AccessSize) (off : Offset) (s : State) : Host.Outcome State Fault Refusal :=
  .next (
    if readsDraw s size off then { s with readData := Config.busyReadDraw s.draws, draws := s.draws + 1 }
    else { s with readData := if size = .word then s.wordAt off else 0#32 })

end Sys2Proof.Machine
end

