-- ==== Sys2Proof/Machine/Capture.lean ====
section
/-! DEFINITION. Sample capture and history (41_capture.md): WR_SAMPLE_IN, WR_SAMPLE_PAIR, PUSH_CHUNK. -/

namespace Sys2Proof.Machine

/-- The history value of the sample `n` under the DC offset `d`: `(i2f(s) - d) / 32768.0`, two roundings (R137). -/
def histValue (d : F32) (n : Int) : F32 := ((F32.ofInt n).sub d).div F32.scale

/-- One round of the loop of R138: the value of STAGE[i] enters HIST at the write cursor, which advances modulo 2048. A NaN
takes the free pattern drawn for it. -/
def State.pushSample (s : State) (i : Fin 128) : State :=
  { s with
    draws := s.draws + 1
    dyn := { s.dyn with
      hist := s.dyn.hist.set s.dyn.histWptr
        ((histValue (val s.dcOffset) (sampleOf s.dyn.stage[i])).toHistBits s.draws)
      histWptr := s.dyn.histWptr + 1 } }

/-- HIST_FILL after one more chunk: `min(HIST_FILL + CHUNK, HIST_LEN)` (R138). -/
def fillAfterChunk (fill : Fin 2049) : Fin 2049 := ⟨min (fill.val + 128) 2048, by omega⟩

/-- `PushChunk()` (R138), also the first stage of HOP. -/
def State.pushChunk (s : State) : State :=
  let t := (List.finRange 128).foldl State.pushSample s
  { t with dyn := { t.dyn.unstaged with histFill := fillAfterChunk t.dyn.histFill } }

/-- PUSH_CHUNK, OP `0x01` (R138). Whether ENABLE allows it is decided at acceptance (40_sequencer.md R120). -/
def execPushChunk (s : State) : Host.Outcome State Fault Refusal :=
  .next (if s.dyn.stageCount.val = 128 then s.pushChunk else s.raiseErr .stageUnderrun).complete

/-- WR_SAMPLE_IN (R135). -/
def execWrSampleIn (v : Word) (s : State) : Host.Outcome State Fault Refusal :=
  .next (
    if s.busy then s.raiseErr .busyWrite
    else if !s.enabled then s.raiseErr .notEnabled
    else s.stageOne (lowSample v))

/-- WR_SAMPLE_PAIR (R136). -/
def execWrSamplePair (v : Word) (s : State) : Host.Outcome State Fault Refusal :=
  .next (
    if s.busy then s.raiseErr .busyWrite
    else if !s.enabled then s.raiseErr .notEnabled
    else (s.stageOne (lowSample v)).stageOne (highSample v))

end Sys2Proof.Machine
end

