-- ==== Sys2Proof/Machine/Commit.lean ====
section
/-! DEFINITION. The result bank (45_commit.md): COMMIT. -/

namespace Sys2Proof.Machine

/-- The bank COMMIT publishes, all of it in one step (R170). -/
def State.published (s : State) : Results where
  seq := wrapIncr s.res.seq
  novelty := s.dyn.wNovelty
  bpm := s.dyn.wBpm
  phase01 := s.dyn.wPhase01
  confidence := s.dyn.wConf
  flags := s.dyn.flagBits
  winner := s.dyn.wWinner
  phase := s.dyn.wPhase
  numErr := s.numErrCount
  hopCount := s.hopCount
  nfMask0 := s.dyn.wNfMask0
  nfMask1 := s.dyn.wNfMask1
  powerSum := s.dyn.wPowerSum
  flux := s.dyn.wFlux
  mag := s.dyn.wMag
  fast := s.dyn.wFast
  slow := s.dyn.wSlow

/-- `Commit()` (R170), also the last stage of HOP. -/
def State.commit (s : State) : State := { s with res := s.published, onsetEvt := s.onsetEvt || s.dyn.wOnset }

/-- COMMIT, OP `0x05` (R170). -/
def execCommit (s : State) : Host.Outcome State Fault Refusal := .next s.commit.complete

end Sys2Proof.Machine
end

