-- ==== Sys2Proof/Machine/Goertzel.lean ====
section
/-! DEFINITION. The Goertzel filter bank (42_goertzel.md): the lanes of R141 to R144, the normalisations of R145 and R146,
the smoothing of R147, and RUN_GOERTZEL. The bins are independent lanes (R148), so each array is built lane by lane. -/

namespace Sys2Proof.Machine

/-! ## Window (R141) -/

/-- `HIST[(HIST_WPTR - N + i) mod HIST_LEN]`: sample `i` of the `n` most recent ones, oldest first. -/
def windowSample (d : Dyn) (n i : Nat) : F32 :=
  val (d.hist[(((d.histWptr.val : Int) - n + i) % 2048).toNat]'(by omega))

/-- `WIN_LUT[(i * WIN_RES) div N]`. For `i < n` the index is below 4096; the reduction is that of 20_memory.md R99. -/
def windowWeight (c : Cfg) (n i : Nat) : F32 :=
  val (c.winLut[(i * 4096 / n) % 4096]'(Nat.mod_lt _ (by decide)))

/-- The windowed samples u_0 .. u_(N-1), one product each. -/
def windowed (c : Cfg) (d : Dyn) (n : Nat) : List F32 :=
  (List.range n).map fun i => (windowSample d n i).mul (windowWeight c n i)

/-! ## Recurrence (R142) -/

/-- One round: `s0 <- ((u + (coeff * s1)) - s2)`; the pair is (s1, s2). -/
def filterStep (coeff : F32) (st : F32 × F32) (u : F32) : F32 × F32 := ((u.add (coeff.mul st.1)).sub st.2, st.1)

/-- The power `p` of the filter's complex output over the windowed samples. -/
def filterPower (cosine sine : F32) (us : List F32) : F32 :=
  let st := us.foldl (filterStep (F32.two.mul cosine)) (F32.zero, F32.zero)
  let re := st.1.sub (st.2.mul cosine)
  let im := st.2.mul sine
  (re.mul re).add (im.mul im)

/-! ## Lanes (R143, R144) -/

/-- What one bin computes. -/
structure BinLane where
  /-- W_RAW[k]. -/
  raw : F32
  /-- g_k. -/
  g : F32
  /-- The bin was clamped. -/
  clamped : Bool

/-- The raw magnitude, `(fsqrt(p) * 2.0) / i2f(N)` (R143). -/
def binRaw (c : Cfg) (d : Dyn) (k : Fin 64) : F32 :=
  let n := c.binN[k].toNat
  let p := filterPower (val c.binCos[k]) (val c.binSin[k]) (windowed c d n)
  (p.sqrt.mul F32.two).div (F32.ofInt n)

/-- Bin `k`, with the non-finite clamp (R143, R144). -/
def binLane (c : Cfg) (d : Dyn) (k : Fin 64) : BinLane :=
  let raw := binRaw c d k
  let g := raw.mul (val c.binGain[k])
  if raw.finite && g.finite then ⟨raw, g, false⟩ else ⟨F32.zero, F32.zero, true⟩

/-- How many bins were clamped. -/
def clampedCount (lanes : Vector BinLane 64) : Nat := (List.finRange 64).countP fun k => lanes[k].clamped

/-! ## Normalisation (R145, R146) -/

/-- Bin `j` of zone `z`. -/
def zoneBin (z : Fin 4) (j : Fin 16) : Fin 64 := ⟨16 * z.val + j.val, by omega⟩

/-- The zone of bin `k`. -/
def zoneOf (k : Fin 64) : Fin 4 := ⟨k.val / 16, by omega⟩

/-- The peak `pk` of a zone: ascending fmax from +0. -/
def zonePeak (lanes : Vector BinLane 64) (z : Fin 4) : F32 :=
  (List.finRange 16).foldl (fun pk j => pk.fmax lanes[zoneBin z j].g) F32.zero

/-- The new level of a zone: rise at once, else decay. -/
def zoneLevelNext (c : Cfg) (d : Dyn) (lanes : Vector BinLane 64) (z : Fin 4) : F32 :=
  let pk := zonePeak lanes z
  let level := val d.zoneLevel[z]
  if pk.ge level then pk else level.mul (val c.agcDecay)

/-- W_MAG[k] with adaptive gain: `fmin(1.0, g_k / fmax(ZONE_LEVEL[z], AGC_FLOOR))` (R146). -/
def magnitudeAgc (c : Cfg) (d : Dyn) (lanes : Vector BinLane 64) (k : Fin 64) : F32 :=
  F32.one.fmin (lanes[k].g.div ((zoneLevelNext c d lanes (zoneOf k)).fmax (val c.agcFloor)))

/-- W_MAG[k] without adaptive gain: `fmin(1.0, g_k)` (R145). -/
def magnitudeClamp (lanes : Vector BinLane 64) (k : Fin 64) : F32 := F32.one.fmin lanes[k].g

/-! ## Smoothing (R147) -/

/-- One one-pole path: `y + (a * (m - y))`, `a` the attack when `m > y` and the release otherwise. -/
def smoothStep (attack release m y : F32) : F32 :=
  let a := if m.gt y then attack else release
  y.add (a.mul (m.sub y))

/-! ## The instruction (R149) -/

/-- The lanes of a state. -/
def State.binLanes (s : State) : Vector BinLane 64 := Vector.ofFn (binLane s.cfg s.dyn)

/-- The masks are cleared, and every bin's raw magnitude, mask bit and numeric fault set (R149, R144). -/
def State.storeLanes (s : State) (lanes : Vector BinLane 64) : State :=
  { s with dyn := { s.dyn with
      wRaw := Vector.ofFn fun k : Fin 64 => lanes[k].raw.toBits
      wNfMask0 := maskWord fun j => (lanes[j.val]'(by omega)).clamped
      wNfMask1 := maskWord fun j => (lanes[j.val + 32]'(by omega)).clamped } }.numfaults (clampedCount lanes)

/-- W_MAG, and ZONE_LEVEL when AGC_EN = 1 (R145, R146). -/
def State.normalise (s : State) (lanes : Vector BinLane 64) : State :=
  if s.agcEn then
    { s with dyn := { s.dyn with
        zoneLevel := Vector.ofFn fun z : Fin 4 => (zoneLevelNext s.cfg s.dyn lanes z).toBits
        wMag := Vector.ofFn fun k : Fin 64 => (magnitudeAgc s.cfg s.dyn lanes k).toBits } }
  else
    { s with dyn := { s.dyn with wMag := Vector.ofFn fun k : Fin 64 => (magnitudeClamp lanes k).toBits } }

/-- W_FAST and W_SLOW (R147). -/
def State.smooth (s : State) : State :=
  { s with dyn := { s.dyn with
      wFast := Vector.ofFn fun k : Fin 64 =>
        (smoothStep (val s.cfg.fastAttack) (val s.cfg.fastRelease) (val s.dyn.wMag[k]) (val s.dyn.wFast[k])).toBits
      wSlow := Vector.ofFn fun k : Fin 64 =>
        (smoothStep (val s.cfg.slowAttack) (val s.cfg.slowRelease) (val s.dyn.wMag[k]) (val s.dyn.wSlow[k])).toBits } }

/-- `RunGoertzel()` (R149), also the second stage of HOP. -/
def State.goertzel (s : State) : State := ((s.storeLanes s.binLanes).normalise s.binLanes).smooth

/-- RUN_GOERTZEL, OP `0x02` (R149). -/
def execRunGoertzel (s : State) : Host.Outcome State Fault Refusal := .next s.goertzel.complete

end Sys2Proof.Machine
end

