-- ==== Sys2Proof/Machine/Onset.lean ====
section
/-! DEFINITION. The onset and novelty detector (43_onset.md): the steps of R151 to R155 and RUN_ONSET. -/

namespace Sys2Proof.Machine

/-! ## Flux (R151) -/

/-- FLUX_MODE = 0: the sum of the per-bin rises, over 64. -/
def fluxPerBin (d : Dyn) : F32 :=
  ((List.finRange 64).foldl (fun acc k =>
    let rise := (val d.wMag[k]).sub (val d.prevMag[k])
    if rise.gt F32.zero then acc.add rise else acc) F32.zero).div F32.sixtyFour

/-- The sum of 64 magnitudes, ascending. -/
def energy (a : Vector Word 64) : F32 := (List.finRange 64).foldl (fun e k => e.add (val a[k])) F32.zero

/-- FLUX_MODE = 1: the rise of the summed magnitude, over 64. -/
def fluxAggregate (d : Dyn) : F32 :=
  let rise := (energy d.wMag).sub (energy d.prevMag)
  (if rise.gt F32.zero then rise else F32.zero).div F32.sixtyFour

/-- A value that is not above zero becomes +0. -/
def rectify (x : F32) : F32 := if x.gt F32.zero then x else F32.zero

/-- A value, or +0 for a non-finite one: the onset detector's substitution (R151, R153, R154). -/
def orZero (x : F32) : F32 := if x.finite then x else F32.zero

/-- The flux of this hop. -/
def fluxOf (s : State) : F32 :=
  if s.novSrc then rectify (orZero (val s.novInject))
  else if s.fluxMode then fluxAggregate s.dyn
  else fluxPerBin s.dyn

/-- Whether forming the flux is a numeric fault: only a non-finite injected value is. -/
def fluxFault (s : State) : Bool := s.novSrc && !(val s.novInject).finite

/-! ## History and baseline (R153) -/

/-- Every entry of the history decayed once. -/
def decayedHist (c : Cfg) (d : Dyn) : Vector Word 128 :=
  Vector.ofFn fun j : Fin 128 => ((val d.novHist[j]).mul (val c.novDecay)).toBits

/-- The entry `j` places before the write cursor, `A[(NOV_WPTR - j) mod 128]`. -/
def recentNov (a : Vector Word 128) (wptr : Fin 128) (j : Nat) : F32 :=
  val (a[(((wptr.val : Int) - j) % 128).toNat]'(by omega))

/-- The mean of the NOV_BASE_LEN most recent previous entries after the decay, newest first, before its check. -/
def baselineMean (c : Cfg) (d : Dyn) : F32 :=
  let len := c.novBaseLen.toNat
  ((List.range len).foldl (fun acc j => acc.add (recentNov (decayedHist c d) d.novWptr (j + 1))) F32.zero).div
    (F32.ofInt len)

/-! ## Novelty, tempo input and onset flag (R154, R155) -/

/-- The divisor `D`. -/
def noveltyDivisor (s : State) (baseline : F32) : F32 :=
  if s.novNorm then baseline.fmax (val s.cfg.novEps) else F32.one

/-- The onset test. -/
def onsetTest (c : Cfg) (flux baseline : F32) : Bool :=
  flux.gt ((val c.onsetRatio).mul baseline) && flux.gt (val c.onsetMin)

/-! ## The instruction (R156) -/

/-- `RunOnset()` (R156), also the third stage of HOP. -/
def State.onset (s : State) : State :=
  let flux := fluxOf s
  let mean := baselineMean s.cfg s.dyn
  let baseline := orZero mean
  let divisor := noveltyDivisor s baseline
  let nov := flux.div divisor
  let xin := (flux.sub baseline).div divisor
  let t := { s with dyn := { s.dyn with
    prevMag := s.dyn.wMag
    novHist := (decayedHist s.cfg s.dyn).set s.dyn.novWptr flux.toBits
    novWptr := s.dyn.novWptr + 1
    wFlux := flux.toBits
    wBaseline := baseline.toBits
    wNovelty := (orZero nov).toBits
    wXin := (orZero xin).toBits
    wOnset := onsetTest s.cfg flux baseline } }
  (((t.numfaultIf (fluxFault s)).numfaultIf (!mean.finite)).numfaultIf (!nov.finite)).numfaultIf (!xin.finite)

/-- RUN_ONSET, OP `0x03` (R156). -/
def execRunOnset (s : State) : Host.Outcome State Fault Refusal := .next s.onset.complete

end Sys2Proof.Machine
end

