-- ==== Sys2Proof/Machine/Tempo.lean ====
section
/-! DEFINITION. The tempo tracker (44_tempo.md): one definition per step R157 to R168, each over the state the step before it
left, and RUN_TEMPO. -/

namespace Sys2Proof.Machine

/-! ## Oscillators (R158 to R160) -/

/-- What one oscillator holds after its update. -/
structure OscLane where
  /-- OSC_RE[m]. -/
  re : Word
  /-- OSC_IM[m]. -/
  im : Word
  /-- OSC_RAW[m]. -/
  raw : Word
  /-- OSC_PHASE[m]. -/
  phase : Word
  /-- OSC_ACTIVE[m]. -/
  active : Bool
  /-- OSC_SMOOTH[m]. -/
  smooth : Word
  /-- Numeric faults of this oscillator. -/
  faults : Nat

/-- The phase of a resonator, in (-PI_F, PI_F]: -PI_F is mapped to PI_F (R158). -/
def oscPhaseOf (im re : F32) : F32 :=
  let ph := im.atan2 re
  if ph.le F32.negPi then F32.pi else ph

/-- The smoothed magnitude before its check (R160). -/
def smoothedOf (c : Cfg) (active : Bool) (smooth raw : F32) : F32 :=
  if active then (smooth.mul (val c.actKeep)).add (raw.mul (val c.actGain)) else smooth.mul (val c.inactDecay)

/-- R159 and R160 on the raw magnitude, real and imaginary part and phase that R158 left. -/
def oscActivity (c : Cfg) (d : Dyn) (m : Fin 121) (re im raw phase : Word) (faults : Nat) : OscLane :=
  let active := (val raw).gt (val c.actThresh)
  let sm := smoothedOf c active (val d.oscSmooth[m]) (val raw)
  if sm.finite then ⟨re, im, raw, phase, active, sm.toBits, faults⟩
  else ⟨re, im, raw, phase, active, d.oscSmooth[m], faults + 1⟩

/-- The update of oscillator `m` (R158, then R159 and R160): a damped rotation plus the tempo input, and the last-good
values where a result is not finite. -/
def oscLane (c : Cfg) (d : Dyn) (m : Fin 121) : OscLane :=
  let cosine := val c.oscCos[m]
  let sine := val c.oscSin[m]
  let re0 := val d.oscRe[m]
  let im0 := val d.oscIm[m]
  let tr := (cosine.mul re0).sub (sine.mul im0)
  let ti := (sine.mul re0).add (cosine.mul im0)
  let re1 := ((val c.resDecay).mul tr).add ((val c.resIn).mul (val d.wXin))
  let im1 := (val c.resDecay).mul ti
  let raw := ((re1.mul re1).add (im1.mul im1)).sqrt.mul (val c.oscGain)
  if re1.finite && im1.finite && raw.finite then
    oscActivity c d m re1.toBits im1.toBits raw.toBits (oscPhaseOf im1 re1).toBits 0
  else
    oscActivity c d m d.oscRe[m] d.oscIm[m] d.oscRaw[m] d.oscPhase[m] 1

/-- The faults of all oscillators. -/
def oscFaults (lanes : Vector OscLane 121) : Nat :=
  (List.finRange 121).foldl (fun n m => n + lanes[m].faults) 0

/-- E, the hops since the last RUN_TEMPO, 1..8 (R157). -/
def elapsedHops (d : Dyn) : Nat := min (1 + d.elapsedPend.val) 8

/-- ELAPSED_PEND and W_BPM_REJ cleared (R157) and every oscillator updated (R158 to R160). -/
def State.tempoOscillators (s : State) : State :=
  let lanes := Vector.ofFn (oscLane s.cfg s.dyn)
  { s with dyn := { s.dyn with
      elapsedPend := 0
      wBpmRej := false
      oscRe := Vector.ofFn fun m : Fin 121 => lanes[m].re
      oscIm := Vector.ofFn fun m : Fin 121 => lanes[m].im
      oscRaw := Vector.ofFn fun m : Fin 121 => lanes[m].raw
      oscPhase := Vector.ofFn fun m : Fin 121 => lanes[m].phase
      oscActive := Vector.ofFn fun m : Fin 121 => lanes[m].active
      oscSmooth := Vector.ofFn fun m : Fin 121 => lanes[m].smooth } }.numfaults (oscFaults lanes)

/-! ## Power sum and winner (R161, R162) -/

/-- The sum of the smoothed magnitudes of the active oscillators, ascending. -/
def powerSumOf (d : Dyn) : F32 :=
  (List.finRange 121).foldl (fun ps m => if d.oscActive[m] then ps.add (val d.oscSmooth[m]) else ps) F32.zero

/-- The oscillator with the largest smoothed magnitude; a tie goes to the lowest index. -/
def winnerOf (d : Dyn) : Fin 121 :=
  (List.finRange 121).foldl (fun w m => if (val d.oscSmooth[m]).gt (val d.oscSmooth[w]) then m else w) 0

/-- W_POWER_SUM and W_WINNER. -/
def State.tempoPower (s : State) : State :=
  { s with dyn := { s.dyn with wPowerSum := (powerSumOf s.dyn).toBits, wWinner := winnerOf s.dyn } }

/-- The power sum is above CONF_EPS, that is, not near zero (R163). -/
def powered (s : State) : Bool := (val s.dyn.wPowerSum).gt (val s.cfg.confEps)

/-! ## Confidence and contributions (R163, R164) -/

/-- A share of the power sum, at most 1. -/
def shareOf (s : State) (smooth : Word) : F32 := F32.one.fmin ((val smooth).div (val s.dyn.wPowerSum))

/-- W_CONF (R163). -/
def State.tempoConfidence (s : State) : State :=
  if powered s then
    let c := shareOf s s.dyn.oscSmooth[s.dyn.wWinner]
    if c.finite then { s with dyn := { s.dyn with wConf := c.toBits } } else s.numfault
  else { s with dyn := { s.dyn with wConf := F32.zero.toBits } }

/-- OSC_CONTRIB[m] is a share of the power sum (R164). -/
def contributes (s : State) (m : Fin 121) : Bool := s.dyn.oscActive[m] && powered s

/-- OSC_CONTRIB[m] before its check (R164). -/
def contribution (s : State) (m : Fin 121) : F32 :=
  if contributes s m then shareOf s s.dyn.oscSmooth[m] else F32.zero

/-- OSC_CONTRIB (R164). -/
def State.tempoContrib (s : State) : State :=
  { s with dyn := { s.dyn with
      oscContrib := Vector.ofFn fun m : Fin 121 =>
        (if (contribution s m).finite then contribution s m else F32.zero).toBits } }.numfaults
    ((List.finRange 121).countP fun m => !(contribution s m).finite)

/-! ## Tempo (R165) -/

/-- The winner's BPM lies within the bounds. -/
def bpmAccepted (s : State) : Bool :=
  (val s.cfg.bpmMin).le (val s.cfg.oscBpm[s.dyn.wWinner]) && (val s.cfg.oscBpm[s.dyn.wWinner]).le (val s.cfg.bpmMax)

/-- W_BPM, TEMPO_OSC, TEMPO_VALID, or the rejection (R165). -/
def State.tempoBpm (s : State) : State :=
  if powered s then
    if bpmAccepted s then
      { s with dyn := { s.dyn with wBpm := s.cfg.oscBpm[s.dyn.wWinner], tempoOsc := s.dyn.wWinner, tempoValid := true } }
    else ({ s with dyn := { s.dyn with wBpmRej := true } }.numfault).raiseErr .bpmReject
  else s

/-! ## Global phase (R166, R167) -/

/-- One wrap toward (-PI_F, PI_F], and whether it was needed. -/
def wrapPhase (p : F32) : F32 × Bool :=
  if p.gt F32.pi then (p.sub F32.twoPi, true)
  else if p.le F32.negPi then (p.add F32.twoPi, true)
  else (p, false)

/-- The phase after `e` hops at the tempo oscillator's rate with the pull of PLL_KP, and whether it wrapped (R166). -/
def phaseNext (s : State) (e : Nat) : F32 × Bool :=
  let t := s.dyn.tempoOsc
  let dphi := (val s.cfg.oscOmega[t]).mul (F32.ofInt e)
  let err := (wrapPhase ((val s.dyn.oscPhase[t]).sub (val s.dyn.wPhase))).1
  wrapPhase (((val s.dyn.wPhase).add dphi).add ((val s.cfg.pllKp).mul err))

/-- The phase is a legal one: finite and in (-PI_F, PI_F]. -/
def phaseLegal (p : F32) : Bool := p.finite && p.gt F32.negPi && p.le F32.pi

/-- W_PHASE and W_POLARITY (R166). -/
def State.tempoPhase (s : State) (e : Nat) : State :=
  if s.dyn.tempoValid then
    if phaseLegal (phaseNext s e).1 then
      { s with dyn := { s.dyn with
          wPhase := (phaseNext s e).1.toBits
          wPolarity := s.dyn.wPolarity ^^ (phaseNext s e).2 } }
    else s.numfault
  else s

/-- W_PHASE01 of a phase (R167). -/
def phase01Of (phase : F32) : F32 :=
  let h := (phase.add F32.pi).div F32.twoPi
  if h.ge F32.one then F32.zero else h

/-- W_PHASE01 (R167) and W_LOCKED (R168). -/
def State.tempoLock (s : State) : State :=
  { s with dyn := { s.dyn with
      wPhase01 := (phase01Of (val s.dyn.wPhase)).toBits
      wLocked := s.dyn.tempoValid && (val s.dyn.wConf).ge (val s.cfg.lockThresh) } }

/-! ## The instruction (R169) -/

/-- `RunTempo()` (R169), also the fourth stage of HOP. -/
def State.tempo (s : State) : State :=
  ((s.tempoOscillators.tempoPower.tempoConfidence.tempoContrib.tempoBpm).tempoPhase (elapsedHops s.dyn)).tempoLock

/-- RUN_TEMPO, OP `0x04` (R169). -/
def execRunTempo (s : State) : Host.Outcome State Fault Refusal := .next s.tempo.complete

end Sys2Proof.Machine
end

