-- ==== Sys2Proof/Machine/Sequencer.lean ====
section
/-! DEFINITION. The commands that compute no feature of their own (40_sequencer.md section 2): NOP, HOP, SKIP_HOP,
CLEAR_STATE, SOFT_RESET. Each ends in the completion of R121; whether ENABLE allows it was decided at acceptance (R120). -/

namespace Sys2Proof.Machine

/-- NOP, OP `0x00` (R122). -/
def execNop (s : State) : Host.Outcome State Fault Refusal := .next s.complete

/-- HOP_COUNT goes up by one, modulo 2^32 (R126). -/
def State.countHop (s : State) : State := { s with hopCount := wrapIncr s.hopCount }

/-- The five stages of one hop, in order (R126). -/
def State.hop (s : State) : State := s.pushChunk.goertzel.onset.tempo.countHop.commit

/-- HOP, OP `0x06` (R126). -/
def execHop (s : State) : Host.Outcome State Fault Refusal :=
  .next (if s.dyn.stageCount.val = 128 then s.hop else s.raiseErr .stageUnderrun).complete

/-- ELAPSED_PEND after one more skipped hop: `min(ELAPSED_PEND + 1, ELAPSED_MAX - 1)` (R125). -/
def elapsedAfterSkip (p : Fin 8) : Fin 8 := ⟨min (p.val + 1) 7, by omega⟩

/-- The body of SKIP_HOP (R125). -/
def State.skipHop (s : State) : State :=
  { s with
    droppedCount := satIncr s.droppedCount
    dyn := { s.dyn.unstaged with elapsedPend := elapsedAfterSkip s.dyn.elapsedPend } }

/-- SKIP_HOP, OP `0x07` (R125). -/
def execSkipHop (s : State) : Host.Outcome State Fault Refusal := .next s.skipHop.complete

/-- CLEAR_STATE, OP `0x08` (R123). -/
def execClearState (s : State) : Host.Outcome State Fault Refusal := .next s.cleared.complete

/-- SOFT_RESET, OP `0x09` (R124). -/
def execSoftReset (s : State) : Host.Outcome State Fault Refusal := .next s.softReset.complete

end Sys2Proof.Machine
end

