-- ==== Sys2Proof/Machine/Dispatch.lean ====
section
/-! DEFINITION. The dispatch: one arm per constructor of Instr, each one direct call of that instruction's meaning. -/

namespace Sys2Proof.Machine

/-- The meaning of one instruction. -/
def exec (i : Instr) (s : State) : Host.Outcome State Fault Refusal :=
  match i with
  | .nop => Sys2Proof.Machine.execNop s
  | .pushChunk => Sys2Proof.Machine.execPushChunk s
  | .runGoertzel => Sys2Proof.Machine.execRunGoertzel s
  | .runOnset => Sys2Proof.Machine.execRunOnset s
  | .runTempo => Sys2Proof.Machine.execRunTempo s
  | .commit => Sys2Proof.Machine.execCommit s
  | .hop => Sys2Proof.Machine.execHop s
  | .skipHop => Sys2Proof.Machine.execSkipHop s
  | .clearState => Sys2Proof.Machine.execClearState s
  | .softReset => Sys2Proof.Machine.execSoftReset s
  | .wrCtrl v => Sys2Proof.Machine.execWrCtrl v s
  | .wrCmd v => Sys2Proof.Machine.execWrCmd v s
  | .wrStatus v => Sys2Proof.Machine.execWrStatus v s
  | .wrErr v => Sys2Proof.Machine.execWrErr v s
  | .wrIrqEn v => Sys2Proof.Machine.execWrIrqEn v s
  | .wrSampleIn v => Sys2Proof.Machine.execWrSampleIn v s
  | .wrSamplePair v => Sys2Proof.Machine.execWrSamplePair v s
  | .wrRuntime off v => Sys2Proof.Machine.execWrRuntime off v s
  | .wrCfg off v => Sys2Proof.Machine.execWrCfg off v s
  | .wrOther size off v => Sys2Proof.Machine.execWrOther size off v s
  | .rd size off => Sys2Proof.Machine.execRd size off s

end Sys2Proof.Machine
end

