-- ==== Sys2Proof/Machine/Step.lean ====
section
/-! DEFINITION. One step of the machine: the next event of the one total order of 20_memory.md R104, a host bus access or
the completion of the accepted command. -/

namespace Sys2Proof.Machine

/-- One step. With no access to issue and no command accepted, the block does nothing (60_exceptions.md R188). -/
def step (s : State) : Host.Outcome State Fault Refusal :=
  match s.fetch with
  | .idle => .next s
  | .engine bytes t =>
    match decode bytes with
    | .ok i => exec i t
    | .error _ => .fault (.corruptLatch s.pendingCmd)
  | .host bytes t =>
    match decode bytes with
    | .ok i => exec i t
    | .error e => .refused (.notAnAccess e)

/-- `s` with the instruction of a table word where the next step fetches: a legal command word in the command latch, and
every other word as the host's next bus access. A 32-bit word that is no legal command is what the host may still write to
CMD (30_encoding.md R111). -/
def State.withFetchWord (s : State) (nbits w : Nat) : State :=
  if 16 < nbits ∧ nbits ≤ 32 then
    match decodeTableWord nbits w with
    | some _ => s.withCommand (BitVec.ofNat 8 w)
    | none => s.withAccess (writeRecord .word cmdOff (BitVec.ofNat 32 w))
  else s.withAccess (BitVec.ofNat 64 (w % 2 ^ nbits))

end Sys2Proof.Machine
end

