-- ==== Sys2Proof/Safety.lean ====
section
/-! DEFINITION. What a sound state of GFB is, in the terms the statements use: the invariants of the command latch, the
configuration lock, the staging buffer, the history and the numbers, and the views of a state two runs are compared by. -/

namespace Sys2Proof.Machine

/-! ## Control -/

/-- While BUSY = 1 the latch holds one of the ten opcodes, and one that needs ENABLE only while ENABLE = 1
(40_sequencer.md R120). -/
def State.LatchLegal (s : State) : Prop :=
  s.busy = true → s.pendingCmd ≤ 0x09#8 ∧ (needsEnable s.pendingCmd = true → s.enabled = true)

/-- While ENABLE = 1 the configuration passes the enable check and no failure is recorded (20_memory.md R108,
10_state.md R34). -/
def State.ConfigChecked (s : State) : Prop :=
  s.enabled = true → s.cfg.validate = none ∧ s.cfgFailAddr = 0xFFFFFFFF#32

/-- LAST_CODE is a code of 60_exceptions.md R175 or 0, and every error raised since reset has left a code. -/
def State.CodesLegal (s : State) : Prop :=
  s.lastCode ≤ 11#5 ∧ (s.lastCode = 0#5 → s.err = 0#11)

/-! ## Staging buffer and history -/

/-- Elements at or above STAGE_COUNT read 0, and every element is a sign-extended sample (10_state.md R88). -/
def Dyn.StageClean (d : Dyn) : Prop :=
  (∀ i : Fin 128, d.stageCount.val ≤ i.val → d.stage[i] = 0#32) ∧
  (∀ i : Fin 128, d.stage[i] = sext16 (lowSample d.stage[i]))

/-- The cursor and the fill count move by whole chunks, and until the history is full the cursor is the fill count and the
unfilled region is zero (10_state.md R47, 41_capture.md R139). -/
def Dyn.HistClean (d : Dyn) : Prop :=
  128 ∣ d.histWptr.val ∧ 128 ∣ d.histFill.val ∧
  (d.histFill.val < 2048 → d.histWptr.val = d.histFill.val ∧
    ∀ i : Fin 2048, d.histFill.val ≤ i.val → d.hist[i] = 0#32)

/-! ## Numbers -/

/-- A value in [0, 1). -/
def inHalfOpenUnit (w : Word) : Bool := F32.zero.le (val w) && (val w).lt F32.one

/-- Not a NaN. -/
def notNaN (w : Word) : Bool := (val w).ordered

/-- A phase in (-PI_F, PI_F]. -/
def legalPhase (w : Word) : Bool := phaseLegal (val w)

/-- The pattern `c` holds a nearest binary32 to the exact value `num / den`, in units of 2^-149: no finite pattern `w` holds
a value nearer to it, and if another value is as near, `c` is the even one of the two (00_scope.md R16). -/
def nearestEven (c : Word) (num den : Int) : Prop :=
  ∀ w : Word, (val w).finite = true →
    ((val c).rank * den - num).natAbs ≤ ((val w).rank * den - num).natAbs ∧
    (((val c).rank * den - num).natAbs = ((val w).rank * den - num).natAbs → (val w).rank ≠ (val c).rank →
      c.getLsbD 0 = false)

/-- The numbers of the filter bank: raw magnitudes and zone levels finite and not negative, magnitudes and smoothed
energies in [0, 1] (42_goertzel.md R144 to R147, 30_encoding.md R118). -/
def Dyn.BinsBounded (d : Dyn) : Prop :=
  (∀ k : Fin 64, isNonneg d.wRaw[k] = true ∧ inUnit d.wMag[k] = true ∧ inUnit d.wFast[k] = true ∧
    inUnit d.wSlow[k] = true ∧ inUnit d.prevMag[k] = true) ∧
  (∀ z : Fin 4, isNonneg d.zoneLevel[z] = true)

/-- The numbers of the onset detector: flux finite and not negative, everything it stores finite (43_onset.md R151 to
R154). -/
def Dyn.OnsetFinite (d : Dyn) : Prop :=
  isNonneg d.wFlux = true ∧ isFinite d.wBaseline = true ∧ isFinite d.wNovelty = true ∧ isFinite d.wXin = true ∧
  (∀ j : Fin 128, isFinite d.novHist[j] = true)

/-- The numbers of the tempo tracker: resonators finite, raw and smoothed magnitudes finite and not negative,
contributions and confidence in [0, 1], the phases in their ranges, the power sum no NaN (44_tempo.md R158 to R167). -/
def Dyn.TempoBounded (d : Dyn) : Prop :=
  (∀ m : Fin 121, isFinite d.oscRe[m] = true ∧ isFinite d.oscIm[m] = true ∧ isNonneg d.oscRaw[m] = true ∧
    isNonneg d.oscSmooth[m] = true ∧ legalPhase d.oscPhase[m] = true ∧ inUnit d.oscContrib[m] = true) ∧
  inUnit d.wConf = true ∧ isFinite d.wBpm = true ∧ legalPhase d.wPhase = true ∧ inHalfOpenUnit d.wPhase01 = true ∧
  notNaN d.wPowerSum = true

/-- The numbers of the result bank: no NaN anywhere, and no infinity but in R_POWER_SUM (45_commit.md R173). -/
def Results.Clean (r : Results) : Prop :=
  (∀ k : Fin 64, inUnit r.mag[k] = true ∧ inUnit r.fast[k] = true ∧ inUnit r.slow[k] = true) ∧
  isFinite r.novelty = true ∧ isFinite r.bpm = true ∧ inHalfOpenUnit r.phase01 = true ∧ inUnit r.confidence = true ∧
  legalPhase r.phase = true ∧ isFinite r.flux = true ∧ notNaN r.powerSum = true

/-- Every number the block computes is where the spec says it is. -/
def State.NumbersBounded (s : State) : Prop :=
  s.dyn.BinsBounded ∧ s.dyn.OnsetFinite ∧ s.dyn.TempoBounded ∧ s.res.Clean

/-! ## Comparing states -/

/-- Every mapped word but those `except` names reads in `t` as in `s`. -/
def sameWords (except : Slot → Bool) (s t : State) : Prop :=
  ∀ slot : Slot, except slot = false → t.word slot = s.word slot

/-- The registers every command's completion writes: STATUS and LAST_CYCLES (40_sequencer.md R121). -/
def completionSlot : Slot → Bool
  | .status => true
  | .lastCycles => true
  | _ => false

/-- The command latch, the host's list, the order of moves and the value last read are as before, but that the command is
no longer running: what every command's completion leaves of the fields that no offset names. -/
def completed (s t : State) : Prop :=
  t.busy = false ∧ t.done = true ∧ t.port = s.port ∧ t.turns = s.turns ∧ t.readData = s.readData

/-- Two states that differ at most in what a cycle count and the count of drawn values say. -/
def sameButDraws (s t : State) : Prop :=
  t = { s with lastCycles := t.lastCycles, draws := t.draws }

end Sys2Proof.Machine
end

