-- ==== Sys2Proof/Certificates/Slice0/Obligations.lean ====
section
/-! DEFINITION. The statements for the provers. Each docstring names the rule of spec/ it formalises, or says that it rests on
a choice of the model and names the log entry. -/

open Sys2Proof Sys2Proof.Machine

/-! ## Encoding -/

/-- Every well-formed instruction decodes from its encoding, with every operand at every value (30_encoding.md R110 to
R114; the bit layout of a bus record is the model's, notes/assumptions/3.md). -/
def Obligations.DecodeEncodeRoundTrip : Prop :=
  ∀ i : Instr, i.WellFormed → decode (encode i) = .ok i

/-- Every run of bytes has at most one meaning: what decodes is well formed and encodes back to the same bytes
(30_encoding.md R110 to R114, notes/assumptions/3.md). -/
def Obligations.DecodedBytesAreTheEncoding : Prop :=
  ∀ (bs : List Byte) (i : Instr), decode bs = .ok i → i.WellFormed ∧ encode i = bs

/-- A few words written out from the spec's encodings (30_encoding.md R111, R112, R114; a bus record's layout is that of
notes/assumptions/3.md). -/
def Obligations.WrittenOutWordsDecode : Prop :=
  decode [0x00#8, 0x00#8, 0x00#8, 0x00#8] = .ok .nop ∧
  decode [0x04#8, 0x00#8, 0x00#8, 0x00#8] = .ok .runTempo ∧
  decode [0x06#8, 0x00#8, 0x00#8, 0x00#8] = .ok .hop ∧
  decode [0x14#8, 0x00#8, 0x00#8, 0x00#8, 0x11#8, 0x00#8, 0x00#8, 0x00#8] = .ok (.wrCtrl 0x00000011#32) ∧
  decode [0x38#8, 0x00#8, 0x00#8, 0x00#8, 0x00#8, 0x00#8, 0x63#8, 0x04#8] = .ok (.wrSamplePair 0x04630000#32) ∧
  decode [0x80#8, 0x00#8, 0x00#8, 0x00#8, 0x0A#8, 0xD7#8, 0x23#8, 0x3C#8] = .ok (.wrCfg 0x0080#16 0x3C23D70A#32) ∧
  decode [0x48#8, 0x00#8, 0x00#8, 0x00#8, 0x05#8, 0x00#8, 0x00#8, 0x00#8] = .ok (.wrOther .word 0x0048#16 0x00000005#32) ∧
  decode [0x1C#8, 0x00#8, 0x01#8, 0x00#8, 0x00#8, 0x00#8, 0x00#8, 0x00#8] = .ok (.rd .word 0x001C#16)

/-- A command word is refused exactly when MBZ is not 0 or OP is above `0x09`, and WR_CMD of such a word, with no command
running, raises ILLEGAL_CMD, sets DONE, leaves BUSY clear and changes nothing else (30_encoding.md R111, R113). -/
def Obligations.ReservedCommandWordsAreIllegal : Prop :=
  ∀ w : Word,
    (decode (commandBytes w) = .error (.reservedCommand w) ↔ (w.extractLsb' 8 24 ≠ 0#24 ∨ 0x09#8 < w.extractLsb' 0 8)) ∧
    ((w.extractLsb' 8 24 ≠ 0#24 ∨ 0x09#8 < w.extractLsb' 0 8) →
      ∀ s : State, s.busy = false → exec (.wrCmd w) s = .next { s.raiseErr .illegalCmd with done := true })

/-! ## The step -/

/-- A step runs the instruction the fetched bytes decode to, in the state the fetch gives: the engine's command when the
engine moves, and the host's next access when the host moves (00_scope.md R20, 20_memory.md R104; that the host's accesses
and the order of moves stand in the state is the model's, notes/assumptions/1.md). With nothing to fetch a step leaves the
state as it is, which the model infers (notes/assumptions/9.md, DEDUCED). -/
def Obligations.StepRunsTheDecodedInstruction : Prop :=
  ∀ (s : State) (i : Instr),
    (∀ t, s.fetch = .engine s.pendingBytes t → decode s.pendingBytes = .ok i → step s = exec i t) ∧
    (∀ bytes t, s.fetch = .host bytes t → decode bytes = .ok i → step s = exec i t) ∧
    (s.fetch = .idle → step s = .next s)

/-- Who moves: with no command running the host issues its next access, or nothing happens; while one runs the engine
completes it unless the host has an access and the order of moves lets the host go first (20_memory.md R104,
70_reset_and_hazards.md R199; notes/assumptions/1.md). -/
def Obligations.FetchFollowsTheOrderOfMoves : Prop :=
  ∀ s : State,
    (s.busy = false → s.port = [] → s.fetch = .idle) ∧
    (∀ r rest, s.busy = false → s.port = r :: rest → s.fetch = .host (accessBytes r) { s with port := rest }) ∧
    (s.busy = true → s.port = [] → s.fetch = .engine s.pendingBytes s) ∧
    (s.busy = true → s.turns = [] → s.fetch = .engine s.pendingBytes s) ∧
    (∀ ts, s.busy = true → s.port ≠ [] → s.turns = .engine :: ts →
      s.fetch = .engine s.pendingBytes { s with turns := ts }) ∧
    (∀ r rest ts, s.busy = true → s.port = r :: rest → s.turns = .host :: ts →
      s.fetch = .host (accessBytes r) { s with port := rest, turns := ts })

/-- A running command completes: from a legal latch, once the moves the order still grants the host are used up, one more
step completes it, whatever the host does meanwhile (40_sequencer.md R121, 70_reset_and_hazards.md R199;
notes/assumptions/1.md). -/
def Obligations.AcceptedCommandCompletes : Prop :=
  ∀ s : State, s.LatchLegal → s.busy = true →
    (∀ r ∈ s.port, ∃ i, decode (accessBytes r) = .ok i) →
    ∃ n, n ≤ s.turns.length + 1 ∧ ∃ t, Host.Core.run core n s = .next t ∧ t.busy = false ∧ t.done = true

/-! ## Reset -/

/-- Every register and array at power-on reset (70_reset_and_hazards.md R189, 10_state.md R26 to R93). -/
def Obligations.PowerOnResetValues : Prop :=
  let s := State.reset
  s.word .id = 0x47464231#32 ∧ s.word .version = 0x00010007#32 ∧ s.word .params0 = 0x08B47940#32 ∧
  s.word .params1 = 0x10000080#32 ∧ s.word .params2 = 0x08000080#32 ∧
  s.word .ctrl = 0#32 ∧ s.word .status = 0#32 ∧ s.word .err = 0#32 ∧ s.word .errInfo = 0#32 ∧
  s.word .cfgFailAddr = 0xFFFFFFFF#32 ∧ s.word .irqEn = 0#32 ∧ s.word .stageCount = 0#32 ∧
  s.word .dcOffset = 0#32 ∧ s.word .novInject = 0#32 ∧ s.word .elapsedPend = 0#32 ∧ s.word .hopCount = 0#32 ∧
  s.word .droppedCount = 0#32 ∧ s.word .numErrCount = 0#32 ∧ s.word .lastCycles = 0#32 ∧ s.word .histWptr = 0#32 ∧
  s.word .histFill = 0#32 ∧ s.word .novWptr = 0#32 ∧
  CfgReg.all.map s.cfg.getReg =
    [0x3BA3D70A#32, 0x3F79999A#32, 0x3CCCCCCD#32, 0x3F7EB852#32, 0x3E19999A#32, 0x3CF5C28F#32, 0x3DA3D70A#32,
     0x3C75C28F#32, 0x3F7EB852#32, 0x3A83126F#32, 0x3F7EB852#32, 0x358637BD#32, 0x3FC00000#32, 0x3A83126F#32,
     0x3F7D70A4#32, 0x3C23D70A#32, 0x41000000#32, 0x358637BD#32, 0x42700000#32, 0x43960000#32, 0x00000000#32,
     0x3CA3D70A#32, 0x00000010#32] ∧
  (∀ t k, s.word (.cfg (.bin t k)) = 0#32) ∧ (∀ t m, s.word (.cfg (.osc t m)) = 0#32) ∧
  (∀ j, s.word (.cfg (.win j)) = 0#32) ∧
  (∀ r, s.word (.res r) = 0#32) ∧ (∀ t k, s.word (.resBin t k) = 0#32) ∧ (∀ w, s.word (.work w) = 0#32) ∧
  s.irq = false ∧ s.busy = false ∧ s.pendingCmd = 0x00#8

/-- The reset state meets every invariant (70_reset_and_hazards.md R189). -/
def Obligations.ResetMeetsTheInvariants : Prop :=
  State.reset.LatchLegal ∧ State.reset.ConfigChecked ∧ State.reset.CodesLegal ∧ State.reset.dyn.StageClean ∧
  State.reset.dyn.HistClean ∧ State.reset.NumbersBounded

/-! ## Errors, STATUS and the interrupt -/

/-- `raise Err(NAME)`: the error's ERR bit is set and no other ERR bit changes, LAST_CODE is the error's code, ERR_ANY is
1, and nothing else changes, whether or not the bit was set before (60_exceptions.md R176). The eleven errors have the bits
0 to 10 and the codes 1 to 11, in the order ILLEGAL_CMD, CMD_BUSY, NOT_ENABLED, STAGE_UNDERRUN, STAGE_OVERFLOW, CFG_LOCKED,
CFG_INVALID, BUSY_WRITE, BUS, NUMERIC, BPM_REJECT, as the table before R176 lists them. -/
def Obligations.RaiseSetsOneStickyBit : Prop :=
  ∀ (s : State) (e : Err),
    (∀ i, i < 11 → (s.raiseErr e).err.getLsbD i = (s.err.getLsbD i || decide (i = e.bit))) ∧
    (s.raiseErr e).lastCode.toNat = e.bit + 1 ∧
    (s.raiseErr e).errAny = true ∧
    s.raiseErr e = { s with err := (s.raiseErr e).err, lastCode := (s.raiseErr e).lastCode } ∧
    [Err.illegalCmd, .cmdBusy, .notEnabled, .stageUnderrun, .stageOverflow, .cfgLocked, .cfgInvalid, .busyWrite, .bus,
     .numeric, .bpmReject].map (fun e => ((s.raiseErr e).err, (s.raiseErr e).lastCode)) =
      [(s.err ||| 0x001#11, 1#5), (s.err ||| 0x002#11, 2#5), (s.err ||| 0x004#11, 3#5), (s.err ||| 0x008#11, 4#5),
       (s.err ||| 0x010#11, 5#5), (s.err ||| 0x020#11, 6#5), (s.err ||| 0x040#11, 7#5), (s.err ||| 0x080#11, 8#5),
       (s.err ||| 0x100#11, 9#5), (s.err ||| 0x200#11, 10#5), (s.err ||| 0x400#11, 11#5)]

/-- Numeric faults are counted one by one and the count saturates; each raises NUMERIC (60_exceptions.md R177). -/
def Obligations.NumericFaultsAreCounted : Prop :=
  ∀ (s : State) (n : Nat),
    (s.numfaults n).numErrCount.toNat = min (s.numErrCount.toNat + n) 0xFFFFFFFF ∧
    (0 < n → (s.numfaults n).err = s.err ||| 0x200#11 ∧ (s.numfaults n).lastCode = 10#5) ∧
    s.numfaults n = { s with numErrCount := (s.numfaults n).numErrCount, err := (s.numfaults n).err,
                             lastCode := (s.numfaults n).lastCode }

/-- The bits of STATUS (10_state.md R31). -/
def Obligations.StatusBitsMirrorTheState : Prop :=
  ∀ s : State,
    (s.word .status).getLsbD 0 = s.busy ∧
    (s.word .status).getLsbD 1 = s.done ∧
    (s.word .status).getLsbD 2 = s.onsetEvt ∧
    (s.word .status).getLsbD 3 = decide (s.word .err ≠ 0#32) ∧
    (s.word .status).getLsbD 4 = decide (s.word .histFill = 2048#32) ∧
    (s.word .status).getLsbD 5 = decide (s.word .stageCount = 128#32) ∧
    (s.word .status).getLsbD 6 = (s.word .ctrl).getLsbD 0 ∧
    (s.word .status).getLsbD 7 = s.irq ∧
    (∀ i, 8 ≤ i → (s.word .status).getLsbD i = false)

/-- The interrupt level is the disjunction of the three enabled causes, and STATUS.IRQ shows it (60_exceptions.md R180). -/
def Obligations.InterruptLevel : Prop :=
  (∀ s : State,
    (s.word .status).getLsbD 7 =
      (((s.word .status).getLsbD 1 && (s.word .irqEn).getLsbD 0)
        || ((s.word .status).getLsbD 3 && (s.word .irqEn).getLsbD 1)
        || ((s.word .status).getLsbD 2 && (s.word .irqEn).getLsbD 2)) ∧
    (s.interrupt = if (s.word .status).getLsbD 7 then some Config.irqLine else none)) ∧
  State.reset.irq = false

/-! ## Bus accesses -/

/-- WR_CMD: the checks in order, the two rejections that set DONE, and the acceptance (40_sequencer.md R120). -/
def Obligations.CommandAcceptance : Prop :=
  ∀ (v : Word) (s : State), ∃ t, exec (.wrCmd v) s = .next t ∧
    t = if s.busy = true then s.raiseErr .cmdBusy
        else if v.extractLsb' 8 24 ≠ 0#24 ∨ 0x09#8 < v.extractLsb' 0 8 then { s.raiseErr .illegalCmd with done := true }
        else if (0x01#8 ≤ v.extractLsb' 0 8 ∧ v.extractLsb' 0 8 ≤ 0x07#8) ∧ s.ctrl.getLsbD 0 = false then
          { s.raiseErr .notEnabled with done := true }
        else { s with busy := true, pendingCmd := v.extractLsb' 0 8 }

/-- WR_CTRL: refused while a command runs; while enabled the mode bits are kept, a change of them raises CFG_LOCKED, and
ENABLE may be cleared; while disabled the mode bits are written, and an enable either passes the check, clears the dynamic
state and enables, or records the first failing word, raises CFG_INVALID and stays disabled (40_sequencer.md R127). -/
def Obligations.ControlWrite : Prop :=
  ∀ (v : Word) (s : State), ∃ t, exec (.wrCtrl v) s = .next t ∧
    (s.busy = true → t = s.raiseErr .busyWrite) ∧
    (s.busy = false → s.enabled = true →
      t.modeBits = s.modeBits ∧ t.enabled = v.getLsbD 0 ∧
      t.err = (if v.extractLsb' 1 4 ≠ s.modeBits then s.err ||| 0x020#11 else s.err) ∧
      t.lastCode = (if v.extractLsb' 1 4 ≠ s.modeBits then 6#5 else s.lastCode) ∧
      t = { s with ctrl := t.ctrl, err := t.err, lastCode := t.lastCode }) ∧
    (s.busy = false → s.enabled = false → v.getLsbD 0 = false →
      t.modeBits = v.extractLsb' 1 4 ∧ t.enabled = false ∧ t = { s with ctrl := t.ctrl }) ∧
    (s.busy = false → s.enabled = false → v.getLsbD 0 = true → s.cfg.validate = none →
      t.modeBits = v.extractLsb' 1 4 ∧ t.enabled = true ∧ t.cfgFailAddr = 0xFFFFFFFF#32 ∧
      (∀ w, t.dyn.get w = 0#32) ∧ t.word .stageCount = 0#32 ∧ t.word .histWptr = 0#32 ∧ t.word .histFill = 0#32 ∧
      t.word .novWptr = 0#32 ∧ t.word .elapsedPend = 0#32 ∧
      t = { s with ctrl := t.ctrl, cfgFailAddr := t.cfgFailAddr, dyn := t.dyn }) ∧
    (∀ w, s.busy = false → s.enabled = false → v.getLsbD 0 = true → s.cfg.validate = some w →
      t.modeBits = v.extractLsb' 1 4 ∧ t.enabled = false ∧ t.cfgFailAddr.toNat = w.offset ∧
      t.err = s.err ||| 0x040#11 ∧ t.lastCode = 7#5 ∧
      t = { s with ctrl := t.ctrl, cfgFailAddr := t.cfgFailAddr, err := t.err, lastCode := t.lastCode })

/-- Validate: the check of every configuration word, and the first failing word in ascending offset order
(40_sequencer.md R128). -/
def Obligations.EnableCheck : Prop :=
  ∀ c : Cfg,
    (c.validate = none ↔ ∀ w, c.check w = true) ∧
    (∀ w, c.validate = some w → c.check w = false ∧ ∀ w', w'.offset < w.offset → c.check w' = true) ∧
    (∀ r ∈ [CfgReg.actThresh, .onsetRatio, .onsetMin, .oscGain, .confEps], c.check (.scalar r) =
      ((val (c.getReg r)).finite && F32.zero.le (val (c.getReg r)))) ∧
    (∀ r ∈ [CfgReg.actKeep, .actGain, .inactDecay, .fastAttack, .fastRelease, .slowAttack, .slowRelease, .agcDecay,
            .novDecay, .resDecay, .pllKp], c.check (.scalar r) =
      (F32.zero.le (val (c.getReg r)) && (val (c.getReg r)).le F32.one)) ∧
    (∀ r ∈ [CfgReg.agcFloor, .novEps], c.check (.scalar r) =
      ((val (c.getReg r)).finite && F32.zero.lt (val (c.getReg r)))) ∧
    (∀ r ∈ [CfgReg.resIn, .bpmMin, .lockThresh], c.check (.scalar r) = (val (c.getReg r)).finite) ∧
    c.check (.scalar .bpmMax) = ((val c.bpmMax).finite && (val c.bpmMin).le (val c.bpmMax)) ∧
    (c.check (.scalar .novBaseLen) = true ↔ 1 ≤ c.novBaseLen.toNat ∧ c.novBaseLen.toNat ≤ 128) ∧
    c.check (.bin .freq 0) = ((val c.binFreq[0]).finite && F32.zero.lt (val c.binFreq[0])) ∧
    (∀ k : Fin 63, c.check (.bin .freq k.succ) =
      ((val c.binFreq[k.val + 1]).finite && F32.zero.lt (val c.binFreq[k.val + 1])
        && (val c.binFreq[k.val]).lt (val c.binFreq[k.val + 1]))) ∧
    (∀ k : Fin 64,
      c.check (.bin .cos k) = (val c.binCos[k]).finite ∧ c.check (.bin .sin k) = (val c.binSin[k]).finite ∧
      (c.check (.bin .n k) = true ↔ 1 ≤ c.binN[k].toNat ∧ c.binN[k].toNat ≤ 2048) ∧
      c.check (.bin .gain k) = ((val c.binGain[k]).finite && F32.zero.le (val c.binGain[k]))) ∧
    (∀ m : Fin 121,
      c.check (.osc .bpm m) = (val c.oscBpm[m]).finite ∧
      c.check (.osc .omega m) = (F32.zero.le (val c.oscOmega[m]) && (val c.oscOmega[m]).le (val 0x3EC90FDB#32)) ∧
      c.check (.osc .cos m) = (val c.oscCos[m]).finite ∧ c.check (.osc .sin m) = (val c.oscSin[m]).finite) ∧
    (∀ j : Fin 4096, c.check (.win j) = (val c.winLut[j]).finite)

/-- WR_CFG: refused while a command runs or while enabled; else the word at the offset takes the value and no other word
and no other state changes (40_sequencer.md R129). -/
def Obligations.ConfigurationWrite : Prop :=
  ∀ (off : Offset) (v : Word) (s : State) (w : CfgWord), cfgAt off.toNat = some w →
    (s.busy = true → exec (.wrCfg off v) s = .next (s.raiseErr .busyWrite)) ∧
    (s.busy = false → s.enabled = true → exec (.wrCfg off v) s = .next (s.raiseErr .cfgLocked)) ∧
    (s.busy = false → s.enabled = false → ∃ t, exec (.wrCfg off v) s = .next t ∧
      t.wordAt off = v ∧ (∀ w', w' ≠ w → t.cfg.get w' = s.cfg.get w') ∧ t = { s with cfg := t.cfg })

/-- WR_RUNTIME: refused while a command runs; else stored, whether ENABLE is 0 or 1, and nothing else changes
(40_sequencer.md R130). -/
def Obligations.RuntimeWrite : Prop :=
  ∀ (v : Word) (s : State),
    exec (.wrRuntime 0x03C#16 v) s = .next (if s.busy = true then s.raiseErr .busyWrite else { s with dcOffset := v }) ∧
    exec (.wrRuntime 0x040#16 v) s = .next (if s.busy = true then s.raiseErr .busyWrite else { s with novInject := v })

/-- WR_STATUS and WR_ERR: exactly the named bits written as 1 are cleared, at any time, with no error; LAST_CODE and
NUM_ERR_COUNT keep their values (40_sequencer.md R131). -/
def Obligations.WriteOneToClear : Prop :=
  ∀ (v : Word) (s : State),
    (∃ t, exec (.wrStatus v) s = .next t ∧ t.done = (s.done && !v.getLsbD 1) ∧
      t.onsetEvt = (s.onsetEvt && !v.getLsbD 2) ∧ t = { s with done := t.done, onsetEvt := t.onsetEvt }) ∧
    (∃ t, exec (.wrErr v) s = .next t ∧ (∀ i, i < 11 → t.err.getLsbD i = (s.err.getLsbD i && !v.getLsbD i)) ∧
      (t.errAny = true ↔ ∃ i, i < 11 ∧ s.err.getLsbD i = true ∧ v.getLsbD i = false) ∧ t = { s with err := t.err })

/-- WR_IRQ_EN: IRQ_EN takes the three low bits, at any time, and nothing else is stored; the interrupt level follows at
once (40_sequencer.md R132). -/
def Obligations.InterruptEnableWrite : Prop :=
  ∀ (v : Word) (s : State), ∃ t, exec (.wrIrqEn v) s = .next t ∧ t.word .irqEn = v &&& 0x7#32 ∧
    t = { s with irqEn := t.irqEn } ∧
    t.irq = ((s.done && v.getLsbD 0) || (s.errAny && v.getLsbD 1) || (s.onsetEvt && v.getLsbD 2))

/-- WR_OTHER: only an error is raised, BUSY_WRITE while a command runs and BUS otherwise; every word but ERR, ERR_INFO and
STATUS reads as before (40_sequencer.md R133). -/
def Obligations.OtherWritesOnlyRaise : Prop :=
  ∀ (size : AccessSize) (off : Offset) (v : Word) (s : State), (Instr.wrOther size off v).WellFormed →
    ∃ t, exec (.wrOther size off v) s = .next t ∧ t = s.raiseErr (if s.busy = true then .busyWrite else .bus) ∧
      sameWords (fun x => decide (x = .err) || decide (x = .errInfo) || decide (x = .status)) s t

/-- RD: 0 for another width, a misaligned or an unmapped offset and a write-only register; a draw for a working-state
offset while a command runs; else the word's value. The block's own state does not change (40_sequencer.md R134,
20_memory.md R106). -/
def Obligations.ReadReturnsTheWord : Prop :=
  ∀ (size : AccessSize) (off : Offset) (s : State), ∃ t, exec (.rd size off) s = .next t ∧
    t = { s with readData := t.readData, draws := t.draws } ∧
    ((size ≠ .word ∨ off.toNat % 4 ≠ 0 ∨ slotAt off = none) → t.readData = 0#32) ∧
    (off = 0x018#16 ∨ off = 0x034#16 ∨ off = 0x038#16 → t.readData = 0#32) ∧
    (∀ w, size = .word → slotAt off = some (.work w) → s.busy = true →
      t.readData = Config.busyReadDraw s.draws ∧ t.draws = s.draws + 1) ∧
    (∀ w, size = .word → slotAt off = some (.work w) → s.busy = false → t.readData = s.dyn.get w) ∧
    (∀ x, size = .word → slotAt off = some x → (∀ w, x ≠ .work w) → t.readData = s.word x)

/-- The address map: an offset names a word exactly when it is that word's offset in the table of 10_state.md R25, and
every word is named by its offset. So a misaligned offset names no word, nor does any offset of the ranges the table lists
as reserved, of the OSC_* slots past element 120, or past the last array (10_state.md R25, 20_memory.md R97, R99). -/
def Obligations.AddressMapIsExact : Prop :=
  (∀ (off : Offset) (x : Slot), slotAt off = some x ↔ off.toNat = x.offset) ∧
  (∀ x : Slot, slotAt (BitVec.ofNat 16 x.offset) = some x) ∧
  (∀ off : Offset, off.toNat % 4 ≠ 0 → slotAt off = none) ∧
  (∀ range ∈ [(0x0064, 0x007C), (0x00DC, 0x00FC), (0x0138, 0x01FC), (0x0500, 0x07FC), (0x0D00, 0x0FFC),
      (0x11E4, 0x11FC), (0x13E4, 0x13FC), (0x15E4, 0x15FC), (0x17E4, 0x17FC), (0x1800, 0x1FFC), (0x6510, 0x65FC),
      (0x6648, 0x67FC), (0x69E4, 0x69FC), (0x6BE4, 0x6BFC), (0x6DE4, 0x6DFC), (0x6FE4, 0x6FFC), (0x71E4, 0x71FC),
      (0x73E4, 0x73FC), (0x75E4, 0x75FC), (0x7800, 0x7FFC), (0xA200, 0xFFFC)],
    ∀ off : Offset, range.1 ≤ off.toNat → off.toNat ≤ range.2 → slotAt off = none)

/-- The little-endian byte view of a word (20_memory.md R98). -/
def Obligations.LittleEndianBytes : Prop :=
  ∀ (s : State) (off : Offset), off.toNat % 4 = 0 →
    s.byteAt off = (s.wordAt off).extractLsb' 0 8 ∧
    s.byteAt (off + 1#16) = (s.wordAt off).extractLsb' 8 8 ∧
    s.byteAt (off + 2#16) = (s.wordAt off).extractLsb' 16 8 ∧
    s.byteAt (off + 3#16) = (s.wordAt off).extractLsb' 24 8

/-! ## Capture -/

/-- WR_SAMPLE_IN: refused while a command runs or while disabled; dropped with STAGE_OVERFLOW when 128 samples are staged;
else the sign-extended sample becomes the next staged element and nothing else changes (41_capture.md R135). -/
def Obligations.SampleWrite : Prop :=
  ∀ (v : Word) (s : State), ∃ t, exec (.wrSampleIn v) s = .next t ∧
    (s.busy = true → t = s.raiseErr .busyWrite) ∧
    (s.busy = false → s.enabled = false → t = s.raiseErr .notEnabled) ∧
    (s.busy = false → s.enabled = true → s.dyn.stageCount.val = 128 → t = s.raiseErr .stageOverflow) ∧
    (s.busy = false → s.enabled = true → s.dyn.stageCount.val < 128 →
      t.dyn.stageCount.val = s.dyn.stageCount.val + 1 ∧
      (∀ i : Fin 128, t.dyn.stage[i] =
        if i.val = s.dyn.stageCount.val then (v.extractLsb' 0 16).signExtend 32 else s.dyn.stage[i]) ∧
      t.stageFull = decide (s.dyn.stageCount.val = 127) ∧
      t = { s with dyn := { s.dyn with stage := t.dyn.stage, stageCount := t.dyn.stageCount } })

/-- WR_SAMPLE_PAIR is, while enabled, the two sample writes of its low half and then its high half; with 127 samples
staged the first enters and the second is dropped, with 128 both are (41_capture.md R136). -/
def Obligations.SamplePairIsTwoSamples : Prop :=
  ∀ (v : Word) (s : State),
    (s.busy = true → exec (.wrSamplePair v) s = .next (s.raiseErr .busyWrite)) ∧
    (s.busy = false → s.enabled = false → exec (.wrSamplePair v) s = .next (s.raiseErr .notEnabled)) ∧
    (s.busy = false → s.enabled = true → ∃ t u, exec (.wrSampleIn v) s = .next t ∧
      exec (.wrSampleIn (v >>> 16)) t = .next u ∧ exec (.wrSamplePair v) s = .next u ∧
      (s.dyn.stageCount.val = 127 → u.dyn.stageCount.val = 128 ∧ u.lastCode = 5#5 ∧
        u.dyn.stage[127] = (v.extractLsb' 0 16).signExtend 32) ∧
      (s.dyn.stageCount.val = 128 → u = s.raiseErr .stageOverflow))

/-- PUSH_CHUNK: with a whole chunk staged the 128 samples, oldest first, overwrite the 128 oldest history entries with
their scaled, DC-corrected values, the cursor and the fill count advance and the staging buffer empties; with a partial
chunk only STAGE_UNDERRUN is raised. A non-finite result that is a NaN takes a free NaN pattern (41_capture.md R137,
R138). -/
def Obligations.PushChunkMovesTheChunk : Prop :=
  ∀ s : State, ∃ t, exec .pushChunk s = .next t ∧ completed s t ∧
    (s.dyn.stageCount.val ≠ 128 → sameButDraws { s.raiseErr .stageUnderrun with busy := false, done := true } t) ∧
    (s.dyn.stageCount.val = 128 →
      (∀ (j : Fin 2048) (i : Fin 128), j.val = (s.dyn.histWptr.val + i.val) % 2048 → ∃ n,
        t.dyn.hist[j] =
          (((F32.ofInt (s.dyn.stage[i].extractLsb' 0 16).toInt).sub (val s.dcOffset)).div
            (val 0x47000000#32)).toHistBits n) ∧
      (∀ j : Fin 2048, (∀ i : Fin 128, j.val ≠ (s.dyn.histWptr.val + i.val) % 2048) → t.dyn.hist[j] = s.dyn.hist[j]) ∧
      t.dyn.histWptr.val = (s.dyn.histWptr.val + 128) % 2048 ∧
      t.dyn.histFill.val = min (s.dyn.histFill.val + 128) 2048 ∧
      (∀ i : Fin 128, t.dyn.stage[i] = 0#32) ∧ t.dyn.stageCount.val = 0 ∧
      t = { s with
        busy := false, done := true, lastCycles := t.lastCycles, draws := t.draws
        dyn := { s.dyn with stage := t.dyn.stage, stageCount := t.dyn.stageCount, hist := t.dyn.hist,
                            histWptr := t.dyn.histWptr, histFill := t.dyn.histFill } })

/-- The order of the history: after PUSH_CHUNK the j-th most recent sample, `HIST[(HIST_WPTR - j) mod 2048]`, is for
j = 1..128 the staged sample 128 - j, and for a larger j what the (j - 128)-th most recent one was (41_capture.md R139). -/
def Obligations.HistoryOrder : Prop :=
  ∀ (s t : State), s.dyn.stageCount.val = 128 → exec .pushChunk s = .next t →
    (∀ (j : Nat) (a : Fin 2048) (i : Fin 128), 1 ≤ j → j ≤ 128 → a.val = (t.dyn.histWptr.val + 2048 - j) % 2048 →
      i.val = 128 - j → ∃ n,
        t.dyn.hist[a] = (histValue (val s.dcOffset) (sampleOf s.dyn.stage[i])).toHistBits n) ∧
    (∀ (j : Nat) (a b : Fin 2048), 128 < j → j ≤ 2048 → a.val = (t.dyn.histWptr.val + 2048 - j) % 2048 →
      b.val = (s.dyn.histWptr.val + 2048 - (j - 128)) % 2048 → t.dyn.hist[a] = s.dyn.hist[b])

/-! ## Goertzel filter bank -/

/-- The raw magnitude of a bin: for any sequence that starts from two zeros and follows the recurrence over the N windowed
samples, oldest first, each windowed by the table entry at `(i * 4096) div N` (42_goertzel.md R141 to R143). -/
def Obligations.RawMagnitudeFollowsTheRecurrence : Prop :=
  ∀ (c : Cfg) (d : Dyn) (k : Fin 64) (x : Nat → F32) (h : Nat → Fin 2048) (w : Nat → Fin 4096),
    let n := c.binN[k].toNat
    let C := val c.binCos[k]
    let S := val c.binSin[k]
    (∀ i, i < n → (h i).val = (((d.histWptr.val : Int) - n + i) % 2048).toNat) →
    (∀ i, i < n → (w i).val = i * 4096 / n) →
    x 0 = F32.zero → x 1 = F32.zero →
    (∀ i, i < n → x (i + 2) =
      (((val d.hist[h i]).mul (val c.winLut[w i])).add ((F32.two.mul C).mul (x (i + 1)))).sub (x i)) →
    binRaw c d k =
      ((((((x (n + 1)).sub ((x n).mul C)).mul ((x (n + 1)).sub ((x n).mul C))).add
        (((x n).mul S).mul ((x n).mul S))).sqrt).mul F32.two).div (F32.ofInt n)

/-- RUN_GOERTZEL, the raw magnitudes: each bin stores its raw magnitude, or, where it or its gain-compensated value is not
finite, +0 with its mask bit set and one numeric fault; the masks hold this command's bins only. Nothing else changes but
W_MAG, W_FAST, W_SLOW and ZONE_LEVEL (42_goertzel.md R144, R149). -/
def Obligations.GoertzelStoresAndClampsLanes : Prop :=
  ∀ s : State, ∃ t, exec .runGoertzel s = .next t ∧ completed s t ∧
    (∀ k : Fin 64,
      let raw := binRaw s.cfg s.dyn k
      let good := raw.finite && (raw.mul (val s.cfg.binGain[k])).finite
      t.dyn.wRaw[k] = (if good then raw.toBits else 0#32) ∧
      (k.val < 32 → t.dyn.wNfMask0.getLsbD k.val = !good) ∧
      (32 ≤ k.val → t.dyn.wNfMask1.getLsbD (k.val - 32) = !good)) ∧
    (∀ faults : Nat, faults = ((List.finRange 64).countP fun k =>
        !((binRaw s.cfg s.dyn k).finite && ((binRaw s.cfg s.dyn k).mul (val s.cfg.binGain[k])).finite)) →
      t.numErrCount.toNat = min (s.numErrCount.toNat + faults) 0xFFFFFFFF ∧
      t.err = (if faults = 0 then s.err else s.err ||| 0x200#11) ∧
      t.lastCode = (if faults = 0 then s.lastCode else 10#5)) ∧
    t = { s with
      busy := false, done := true, lastCycles := t.lastCycles, draws := t.draws
      err := t.err, lastCode := t.lastCode, numErrCount := t.numErrCount
      dyn := { s.dyn with wRaw := t.dyn.wRaw, wMag := t.dyn.wMag, wFast := t.dyn.wFast, wSlow := t.dyn.wSlow,
                          zoneLevel := t.dyn.zoneLevel, wNfMask0 := t.dyn.wNfMask0, wNfMask1 := t.dyn.wNfMask1 } }

/-- RUN_GOERTZEL, normalisation: with AGC_EN = 0 each magnitude is `fmin(1.0, g)` and the zone levels do not change; with
AGC_EN = 1 each zone's level rises at once to the peak or decays, and each magnitude is
`fmin(1.0, g / fmax(level, AGC_FLOOR))`. `g` is the gain-compensated magnitude, +0 for a clamped bin (42_goertzel.md R145,
R146). -/
def Obligations.GoertzelNormalises : Prop :=
  ∀ s : State, ∃ t, exec .runGoertzel s = .next t ∧
    ∀ g : Fin 64 → F32,
      (∀ k, g k = if (binRaw s.cfg s.dyn k).finite && ((binRaw s.cfg s.dyn k).mul (val s.cfg.binGain[k])).finite
        then (binRaw s.cfg s.dyn k).mul (val s.cfg.binGain[k]) else F32.zero) →
      (s.ctrl.getLsbD 1 = false →
        t.dyn.zoneLevel = s.dyn.zoneLevel ∧ ∀ k : Fin 64, t.dyn.wMag[k] = (F32.fmin F32.one (g k)).toBits) ∧
      (s.ctrl.getLsbD 1 = true → ∀ z : Fin 4, ∃ level : F32,
        (∀ pk : F32, pk = (List.finRange 16).foldl (fun pk j => pk.fmax (g ⟨16 * z.val + j.val, by omega⟩)) F32.zero →
          level = if pk.ge (val s.dyn.zoneLevel[z]) then pk else (val s.dyn.zoneLevel[z]).mul (val s.cfg.agcDecay)) ∧
        t.dyn.zoneLevel[z] = level.toBits ∧
        ∀ k : Fin 64, k.val / 16 = z.val →
          t.dyn.wMag[k] = (F32.fmin F32.one ((g k).div (F32.fmax level (val s.cfg.agcFloor)))).toBits)

/-- RUN_GOERTZEL, smoothing: each path moves from its old value toward this hop's magnitude by the attack coefficient when
the magnitude is strictly above it and by the release coefficient otherwise (42_goertzel.md R147). -/
def Obligations.GoertzelSmooths : Prop :=
  ∀ s : State, ∃ t, exec .runGoertzel s = .next t ∧
    ∀ k : Fin 64,
      let m := val t.dyn.wMag[k]
      let f := val s.dyn.wFast[k]
      let l := val s.dyn.wSlow[k]
      let a := if m.gt f then val s.cfg.fastAttack else val s.cfg.fastRelease
      let b := if m.gt l then val s.cfg.slowAttack else val s.cfg.slowRelease
      t.dyn.wFast[k] = (f.add (a.mul (m.sub f))).toBits ∧ t.dyn.wSlow[k] = (l.add (b.mul (m.sub l))).toBits

/-- The bins are independent lanes: a bin's raw magnitude and mask bit depend only on HIST, HIST_WPTR, WIN_LUT and the
bin's own configuration (42_goertzel.md R148). -/
def Obligations.BinsAreIndependentLanes : Prop :=
  ∀ (s s' t t' : State) (k : Fin 64),
    s.dyn.hist = s'.dyn.hist → s.dyn.histWptr = s'.dyn.histWptr → s.cfg.winLut = s'.cfg.winLut →
    s.cfg.binCos[k] = s'.cfg.binCos[k] → s.cfg.binSin[k] = s'.cfg.binSin[k] → s.cfg.binN[k] = s'.cfg.binN[k] →
    s.cfg.binGain[k] = s'.cfg.binGain[k] →
    exec .runGoertzel s = .next t → exec .runGoertzel s' = .next t' →
    t.dyn.wRaw[k] = t'.dyn.wRaw[k] ∧
    (k.val < 32 → t.dyn.wNfMask0.getLsbD k.val = t'.dyn.wNfMask0.getLsbD k.val) ∧
    (32 ≤ k.val → t.dyn.wNfMask1.getLsbD (k.val - 32) = t'.dyn.wNfMask1.getLsbD (k.val - 32))

/-- Silence: under a configuration that passes the enable check and whose doubled cosines are finite, a history of +0
gives every bin the raw magnitude +0 and a magnitude of value zero, and no fault (42_goertzel.md R150; the statement rests
on two readings of notes/assumptions/17.md: R150 presumes that `2.0 * C` does not overflow, which R128 does not check, and
a gain of -0, which R128 lets pass, makes the magnitude -0). With AGC_EN = 1 the zone levels are finite and not negative
before, as every reachable state has them. -/
def Obligations.SilenceGivesZeroMagnitudes : Prop :=
  ∀ s : State, s.cfg.validate = none → (∀ k : Fin 64, (F32.two.mul (val s.cfg.binCos[k])).finite = true) →
    (∀ i : Fin 2048, s.dyn.hist[i] = 0#32) →
    (s.ctrl.getLsbD 1 = true → ∀ z : Fin 4, isNonneg s.dyn.zoneLevel[z] = true) →
    ∃ t, exec .runGoertzel s = .next t ∧ t.numErrCount = s.numErrCount ∧
      ∀ k : Fin 64, t.dyn.wRaw[k] = 0#32 ∧ (t.dyn.wMag[k] = 0#32 ∨ t.dyn.wMag[k] = 0x80000000#32)

/-! ## Onset and novelty -/

/-- RUN_ONSET, the flux: the injected value, clamped, when NOV_SRC = 1; else the rise of the summed magnitude or the sum
of the per-bin rises, over 64, by FLUX_MODE; and PREV_MAG becomes W_MAG in every mode (43_onset.md R151, R152). -/
def Obligations.OnsetFlux : Prop :=
  ∀ s : State, ∃ t, exec .runOnset s = .next t ∧ completed s t ∧ t.dyn.prevMag = s.dyn.wMag ∧
    (s.ctrl.getLsbD 4 = true →
      t.dyn.wFlux = (if (val s.novInject).finite && (val s.novInject).gt F32.zero then s.novInject else 0#32)) ∧
    (s.ctrl.getLsbD 4 = false → s.ctrl.getLsbD 2 = false → t.dyn.wFlux =
      (((List.finRange 64).foldl (fun acc k =>
        if ((val s.dyn.wMag[k]).sub (val s.dyn.prevMag[k])).gt F32.zero
        then acc.add ((val s.dyn.wMag[k]).sub (val s.dyn.prevMag[k])) else acc) F32.zero).div (val 0x42800000#32)).toBits) ∧
    (s.ctrl.getLsbD 4 = false → s.ctrl.getLsbD 2 = true → ∀ rise : F32,
      rise = ((List.finRange 64).foldl (fun e k => e.add (val s.dyn.wMag[k])) F32.zero).sub
        ((List.finRange 64).foldl (fun e k => e.add (val s.dyn.prevMag[k])) F32.zero) →
      t.dyn.wFlux = ((if rise.gt F32.zero then rise else F32.zero).div (val 0x42800000#32)).toBits)

/-- RUN_ONSET, the history: every entry decays once, the newest value is then written at the cursor undecayed, the cursor
advances modulo 128, and the baseline is the mean of the NOV_BASE_LEN most recent previous entries after the decay, newest
first, or +0 if that is not finite (43_onset.md R153). -/
def Obligations.OnsetHistory : Prop :=
  ∀ s : State, ∃ t, exec .runOnset s = .next t ∧
    t.dyn.novHist[s.dyn.novWptr] = t.dyn.wFlux ∧
    (∀ j : Fin 128, j ≠ s.dyn.novWptr → t.dyn.novHist[j] = ((val s.dyn.novHist[j]).mul (val s.cfg.novDecay)).toBits) ∧
    t.dyn.novWptr.val = (s.dyn.novWptr.val + 1) % 128 ∧
    (∀ e : Nat → F32,
      (∀ (j : Nat) (a : Fin 128), a.val = (((s.dyn.novWptr.val : Int) - j) % 128).toNat →
        e j = val ((val s.dyn.novHist[a]).mul (val s.cfg.novDecay)).toBits) →
      let mean := ((List.range s.cfg.novBaseLen.toNat).foldl (fun acc j => acc.add (e (j + 1))) F32.zero).div
        (F32.ofInt s.cfg.novBaseLen.toNat)
      t.dyn.wBaseline = (if mean.finite then mean else F32.zero).toBits)

/-- RUN_ONSET, the novelty, the tempo input and the onset flag, from the flux and the baseline it stores (43_onset.md R154,
R155). -/
def Obligations.OnsetNoveltyAndFlag : Prop :=
  ∀ s : State, ∃ t, exec .runOnset s = .next t ∧
    ∀ flux baseline : F32, flux = val t.dyn.wFlux → baseline = val t.dyn.wBaseline →
      let D := if s.ctrl.getLsbD 3 then F32.fmax baseline (val s.cfg.novEps) else F32.one
      let nov := flux.div D
      let xin := (flux.sub baseline).div D
      t.dyn.wNovelty = (if nov.finite then nov else F32.zero).toBits ∧
      t.dyn.wXin = (if xin.finite then xin else F32.zero).toBits ∧
      t.dyn.wOnset = (flux.gt ((val s.cfg.onsetRatio).mul baseline) && flux.gt (val s.cfg.onsetMin))

/-- RUN_ONSET changes nothing but PREV_MAG, NOV_HIST, NOV_WPTR, W_FLUX, W_BASELINE, W_NOVELTY, W_XIN, W_ONSET and, on a
numeric fault, NUM_ERR_COUNT, ERR.NUMERIC and LAST_CODE; it counts one fault for each of a non-finite injected value,
baseline, novelty and tempo input (43_onset.md R156). -/
def Obligations.OnsetFrame : Prop :=
  ∀ s : State, ∃ t, exec .runOnset s = .next t ∧
    (∀ (flux baseline D : F32) (n : Nat), flux = val t.dyn.wFlux → baseline = val t.dyn.wBaseline →
      D = (if s.ctrl.getLsbD 3 then F32.fmax baseline (val s.cfg.novEps) else F32.one) →
      n = [s.ctrl.getLsbD 4 && !(val s.novInject).finite, !(baselineMean s.cfg s.dyn).finite, !(flux.div D).finite,
           !((flux.sub baseline).div D).finite].count true →
      t.numErrCount.toNat = min (s.numErrCount.toNat + n) 0xFFFFFFFF ∧
      t.err = (if n = 0 then s.err else s.err ||| 0x200#11) ∧ t.lastCode = (if n = 0 then s.lastCode else 10#5)) ∧
    t = { s with
      busy := false, done := true, lastCycles := t.lastCycles, draws := t.draws
      err := t.err, lastCode := t.lastCode, numErrCount := t.numErrCount
      dyn := { s.dyn with prevMag := t.dyn.prevMag, novHist := t.dyn.novHist, novWptr := t.dyn.novWptr,
                          wFlux := t.dyn.wFlux, wBaseline := t.dyn.wBaseline, wNovelty := t.dyn.wNovelty,
                          wXin := t.dyn.wXin, wOnset := t.dyn.wOnset } }

/-! ## Tempo tracker -/

/-- RUN_TEMPO, the oscillators: each resonator takes its damped rotation plus the tempo input, with its magnitude and its
phase, or keeps all four where a result is not finite; it is active when the raw magnitude it then holds is strictly above
ACT_THRESH; and its smoothed magnitude follows, or is kept where not finite (44_tempo.md R158, R159, R160). -/
def Obligations.OscillatorUpdate : Prop :=
  ∀ s : State, ∃ t, exec .runTempo s = .next t ∧
    ∀ m : Fin 121,
      let C := val s.cfg.oscCos[m]
      let S := val s.cfg.oscSin[m]
      let re0 := val s.dyn.oscRe[m]
      let im0 := val s.dyn.oscIm[m]
      let tr := (C.mul re0).sub (S.mul im0)
      let ti := (S.mul re0).add (C.mul im0)
      let re1 := ((val s.cfg.resDecay).mul tr).add ((val s.cfg.resIn).mul (val s.dyn.wXin))
      let im1 := (val s.cfg.resDecay).mul ti
      let raw := (((re1.mul re1).add (im1.mul im1)).sqrt).mul (val s.cfg.oscGain)
      let ph := if (im1.atan2 re1).le F32.negPi then F32.pi else im1.atan2 re1
      let active := (val t.dyn.oscRaw[m]).gt (val s.cfg.actThresh)
      let sm := if active
        then ((val s.dyn.oscSmooth[m]).mul (val s.cfg.actKeep)).add ((val t.dyn.oscRaw[m]).mul (val s.cfg.actGain))
        else (val s.dyn.oscSmooth[m]).mul (val s.cfg.inactDecay)
      (re1.finite = true ∧ im1.finite = true ∧ raw.finite = true →
        t.dyn.oscRe[m] = re1.toBits ∧ t.dyn.oscIm[m] = im1.toBits ∧ t.dyn.oscRaw[m] = raw.toBits ∧
        t.dyn.oscPhase[m] = ph.toBits) ∧
      (¬ (re1.finite = true ∧ im1.finite = true ∧ raw.finite = true) →
        t.dyn.oscRe[m] = s.dyn.oscRe[m] ∧ t.dyn.oscIm[m] = s.dyn.oscIm[m] ∧ t.dyn.oscRaw[m] = s.dyn.oscRaw[m] ∧
        t.dyn.oscPhase[m] = s.dyn.oscPhase[m]) ∧
      t.dyn.oscActive[m] = active ∧
      t.dyn.oscSmooth[m] = (if sm.finite then sm.toBits else s.dyn.oscSmooth[m])

/-- `atan2_f32` on finite arguments: finite and in [-PI_F, PI_F], with the values on the axes (00_scope.md R18). -/
def Obligations.ArctangentProperties : Prop :=
  (∀ y x : F32, y.finite = true → x.finite = true →
    (y.atan2 x).finite = true ∧ F32.negPi.le (y.atan2 x) = true ∧ (y.atan2 x).le F32.pi = true) ∧
  (∀ n, F32.atan2 (.fin false 0) (.fin false n) = .fin false 0 ∧ F32.atan2 (.fin true 0) (.fin false n) = .fin true 0) ∧
  (∀ n, F32.atan2 (.fin false 0) (.fin true n) = F32.pi ∧ F32.atan2 (.fin true 0) (.fin true n) = F32.negPi) ∧
  (∀ n z, 0 < n → (F32.atan2 (.fin false n) (.fin z 0)).toBits = 0x3FC90FDB#32 ∧
    (F32.atan2 (.fin true n) (.fin z 0)).toBits = 0xBFC90FDB#32)

/-- RUN_TEMPO, power sum and winner: the sum in ascending order of the smoothed magnitudes of the active oscillators only;
and, where no smoothed magnitude is a NaN, the winner has the largest one, active or not, and a tie goes to the lowest
index (44_tempo.md R161, R162). -/
def Obligations.PowerSumAndWinner : Prop :=
  ∀ s : State, ∃ t, exec .runTempo s = .next t ∧
    t.dyn.wPowerSum = ((List.finRange 121).foldl (fun ps m =>
      if t.dyn.oscActive[m] then ps.add (val t.dyn.oscSmooth[m]) else ps) F32.zero).toBits ∧
    ((∀ m : Fin 121, (val t.dyn.oscSmooth[m]).ordered = true) → ∀ m : Fin 121,
      (val t.dyn.oscSmooth[m]).le (val t.dyn.oscSmooth[t.dyn.wWinner]) = true ∧
      (m < t.dyn.wWinner → (val t.dyn.oscSmooth[m]).lt (val t.dyn.oscSmooth[t.dyn.wWinner]) = true))

/-- RUN_TEMPO, confidence and contributions: the winner's share of the power sum, at most 1, +0 where the power sum is not
above CONF_EPS, and the last-good value where the share is not finite; an active oscillator's contribution is its own share,
+0 otherwise (44_tempo.md R163, R164). -/
def Obligations.ConfidenceAndContributions : Prop :=
  ∀ s : State, ∃ t, exec .runTempo s = .next t ∧
    ∀ ps : F32, ps = val t.dyn.wPowerSum →
      let c := F32.fmin F32.one ((val t.dyn.oscSmooth[t.dyn.wWinner]).div ps)
      t.dyn.wConf =
        (if ps.gt (val s.cfg.confEps) then (if c.finite then c.toBits else s.dyn.wConf) else 0#32) ∧
      ∀ m : Fin 121,
        let q := F32.fmin F32.one ((val t.dyn.oscSmooth[m]).div ps)
        t.dyn.oscContrib[m] =
          (if t.dyn.oscActive[m] && ps.gt (val s.cfg.confEps) && q.finite then q.toBits else 0#32)

/-- RUN_TEMPO, tempo: with the power sum above CONF_EPS the winner's BPM is taken when it lies within the inclusive bounds
and otherwise rejected, with NUMERIC and BPM_REJECT raised and W_BPM_REJ set; a rejected or absent estimate leaves W_BPM,
TEMPO_OSC and TEMPO_VALID as they were (44_tempo.md R165). -/
def Obligations.TempoEstimate : Prop :=
  ∀ s : State, ∃ t, exec .runTempo s = .next t ∧
    ∀ (powered : Bool) (b : F32),
      powered = (val t.dyn.wPowerSum).gt (val s.cfg.confEps) → b = val s.cfg.oscBpm[t.dyn.wWinner] →
      (powered = true → (val s.cfg.bpmMin).le b = true ∧ b.le (val s.cfg.bpmMax) = true →
        t.dyn.wBpm = s.cfg.oscBpm[t.dyn.wWinner] ∧ t.dyn.tempoOsc = t.dyn.wWinner ∧ t.dyn.tempoValid = true ∧
        t.dyn.wBpmRej = false) ∧
      (powered = true → ¬ ((val s.cfg.bpmMin).le b = true ∧ b.le (val s.cfg.bpmMax) = true) →
        t.dyn.wBpm = s.dyn.wBpm ∧ t.dyn.tempoOsc = s.dyn.tempoOsc ∧ t.dyn.tempoValid = s.dyn.tempoValid ∧
        t.dyn.wBpmRej = true ∧ t.err.getLsbD 9 = true ∧ t.err.getLsbD 10 = true ∧
        (t.numErrCount.toNat = 0xFFFFFFFF ∨ s.numErrCount.toNat < t.numErrCount.toNat)) ∧
      (powered = false →
        t.dyn.wBpm = s.dyn.wBpm ∧ t.dyn.tempoOsc = s.dyn.tempoOsc ∧ t.dyn.tempoValid = s.dyn.tempoValid ∧
        t.dyn.wBpmRej = false ∧ t.err.getLsbD 10 = s.err.getLsbD 10)

/-- RUN_TEMPO, the global phase: with a valid tempo it advances by the tempo oscillator's rate times the elapsed hops plus
the pull toward that oscillator's phase, with at most one wrap, which flips the polarity; a step that would leave
(-PI_F, PI_F] is refused; without a valid tempo nothing moves. ELAPSED_PEND is consumed (44_tempo.md R157, R166). -/
def Obligations.GlobalPhaseStep : Prop :=
  ∀ s : State, ∃ t, exec .runTempo s = .next t ∧ t.dyn.elapsedPend.val = 0 ∧
    (t.dyn.tempoValid = false → t.dyn.wPhase = s.dyn.wPhase ∧ t.dyn.wPolarity = s.dyn.wPolarity) ∧
    (t.dyn.tempoValid = true → ∀ o : Fin 121, o = t.dyn.tempoOsc →
      let dphi := (val s.cfg.oscOmega[o]).mul (F32.ofInt (min (1 + s.dyn.elapsedPend.val) 8 : Nat))
      let e0 := (val t.dyn.oscPhase[o]).sub (val s.dyn.wPhase)
      let e := if e0.gt F32.pi then e0.sub F32.twoPi else if e0.le F32.negPi then e0.add F32.twoPi else e0
      let p0 := ((val s.dyn.wPhase).add dphi).add ((val s.cfg.pllKp).mul e)
      let wraps := p0.gt F32.pi || p0.le F32.negPi
      let p := if p0.gt F32.pi then p0.sub F32.twoPi else if p0.le F32.negPi then p0.add F32.twoPi else p0
      if p.finite && F32.negPi.lt p && p.le F32.pi
      then t.dyn.wPhase = p.toBits ∧ t.dyn.wPolarity = (s.dyn.wPolarity ^^ wraps)
      else t.dyn.wPhase = s.dyn.wPhase ∧ t.dyn.wPolarity = s.dyn.wPolarity)

/-- RUN_TEMPO, the beat phase, `(W_PHASE + PI_F) / TWO_PI_F` folded to +0 where it is 1 or more, and the lock flag, from
the phase, confidence and tempo it leaves (44_tempo.md R167, R168). -/
def Obligations.BeatPhaseAndLock : Prop :=
  ∀ s : State, ∃ t, exec .runTempo s = .next t ∧
    (∀ h : F32, h = ((val t.dyn.wPhase).add F32.pi).div F32.twoPi →
      t.dyn.wPhase01 = (if h.ge F32.one then F32.zero else h).toBits) ∧
    t.dyn.wLocked = (t.dyn.tempoValid && (val t.dyn.wConf).ge (val s.cfg.lockThresh))

/-- RUN_TEMPO changes nothing but the oscillator state and the tempo values of the working state and, on faults,
NUM_ERR_COUNT, ERR.NUMERIC, ERR.BPM_REJECT and LAST_CODE. It counts one fault for each oscillator whose resonator is not
finite, each whose smoothed magnitude is not, a confidence that is not, each active oscillator's contribution that is not, a
rejected BPM, and a refused phase step; any fault sets NUMERIC, a rejected BPM also BPM_REJECT, and LAST_CODE is the code of
the last one raised, in the order of the rules (44_tempo.md R158, R160, R163 to R166, R169, 60_exceptions.md R177, R178). -/
def Obligations.TempoFrame : Prop :=
  ∀ s : State, ∃ t, exec .runTempo s = .next t ∧ completed s t ∧
    (let resonatorFault := fun m : Fin 121 =>
        let C := val s.cfg.oscCos[m]
        let S := val s.cfg.oscSin[m]
        let re1 := ((val s.cfg.resDecay).mul ((C.mul (val s.dyn.oscRe[m])).sub (S.mul (val s.dyn.oscIm[m])))).add
          ((val s.cfg.resIn).mul (val s.dyn.wXin))
        let im1 := (val s.cfg.resDecay).mul ((S.mul (val s.dyn.oscRe[m])).add (C.mul (val s.dyn.oscIm[m])))
        let raw := (((re1.mul re1).add (im1.mul im1)).sqrt).mul (val s.cfg.oscGain)
        !(re1.finite && im1.finite && raw.finite)
      let smoothFault := fun m : Fin 121 =>
        !(if (val t.dyn.oscRaw[m]).gt (val s.cfg.actThresh)
          then ((val s.dyn.oscSmooth[m]).mul (val s.cfg.actKeep)).add ((val t.dyn.oscRaw[m]).mul (val s.cfg.actGain))
          else (val s.dyn.oscSmooth[m]).mul (val s.cfg.inactDecay)).finite
      let ps := val t.dyn.wPowerSum
      let powered := ps.gt (val s.cfg.confEps)
      let shareFault := fun m : Fin 121 =>
        powered && !(F32.fmin F32.one ((val t.dyn.oscSmooth[m]).div ps)).finite
      let b := val s.cfg.oscBpm[t.dyn.wWinner]
      let rejected := powered && !((val s.cfg.bpmMin).le b && b.le (val s.cfg.bpmMax))
      let e0 := (val t.dyn.oscPhase[t.dyn.tempoOsc]).sub (val s.dyn.wPhase)
      let e := if e0.gt F32.pi then e0.sub F32.twoPi else if e0.le F32.negPi then e0.add F32.twoPi else e0
      let dphi := (val s.cfg.oscOmega[t.dyn.tempoOsc]).mul (F32.ofInt (min (1 + s.dyn.elapsedPend.val) 8 : Nat))
      let p0 := ((val s.dyn.wPhase).add dphi).add ((val s.cfg.pllKp).mul e)
      let p := if p0.gt F32.pi then p0.sub F32.twoPi else if p0.le F32.negPi then p0.add F32.twoPi else p0
      let phaseFault := t.dyn.tempoValid && !(p.finite && F32.negPi.lt p && p.le F32.pi)
      let faults := (List.finRange 121).countP resonatorFault + (List.finRange 121).countP smoothFault
        + (shareFault t.dyn.wWinner).toNat + (List.finRange 121).countP (fun m => t.dyn.oscActive[m] && shareFault m)
        + rejected.toNat + phaseFault.toNat
      t.numErrCount.toNat = min (s.numErrCount.toNat + faults) 0xFFFFFFFF ∧
      t.err = (if faults = 0 then s.err else if rejected then s.err ||| 0x600#11 else s.err ||| 0x200#11) ∧
      t.lastCode =
        (if phaseFault then 10#5 else if rejected then 11#5 else if faults = 0 then s.lastCode else 10#5)) ∧
    t = { s with
      busy := false, done := true, lastCycles := t.lastCycles, draws := t.draws
      err := t.err, lastCode := t.lastCode, numErrCount := t.numErrCount
      dyn := { s.dyn with
        elapsedPend := t.dyn.elapsedPend, wPowerSum := t.dyn.wPowerSum, wWinner := t.dyn.wWinner, wConf := t.dyn.wConf
        wBpm := t.dyn.wBpm, tempoOsc := t.dyn.tempoOsc, tempoValid := t.dyn.tempoValid, wPhase := t.dyn.wPhase
        wPolarity := t.dyn.wPolarity, wPhase01 := t.dyn.wPhase01, wLocked := t.dyn.wLocked, wBpmRej := t.dyn.wBpmRej
        oscRe := t.dyn.oscRe, oscIm := t.dyn.oscIm, oscRaw := t.dyn.oscRaw, oscSmooth := t.dyn.oscSmooth
        oscPhase := t.dyn.oscPhase, oscContrib := t.dyn.oscContrib, oscActive := t.dyn.oscActive } }

/-! ## Commit -/

/-- COMMIT publishes the working values, NUM_ERR_COUNT and HOP_COUNT under the next sequence number, raises ONSET_EVT with a
committed onset, and changes nothing else (45_commit.md R170). -/
def Obligations.CommitPublishes : Prop :=
  ∀ s : State, ∃ t, exec .commit s = .next t ∧ completed s t ∧
    t.res.seq.toNat = (s.res.seq.toNat + 1) % 2 ^ 32 ∧
    t.res.novelty = s.dyn.wNovelty ∧ t.res.bpm = s.dyn.wBpm ∧ t.res.phase01 = s.dyn.wPhase01 ∧
    t.res.confidence = s.dyn.wConf ∧ t.res.winner = s.dyn.wWinner ∧ t.res.phase = s.dyn.wPhase ∧
    t.res.numErr = s.numErrCount ∧ t.res.hopCount = s.hopCount ∧ t.res.nfMask0 = s.dyn.wNfMask0 ∧
    t.res.nfMask1 = s.dyn.wNfMask1 ∧ t.res.powerSum = s.dyn.wPowerSum ∧ t.res.flux = s.dyn.wFlux ∧
    (∀ k : Fin 64, t.res.mag[k] = s.dyn.wMag[k] ∧ t.res.fast[k] = s.dyn.wFast[k] ∧ t.res.slow[k] = s.dyn.wSlow[k]) ∧
    (t.word (.res .flags)).getLsbD 0 = s.dyn.wOnset ∧ (t.word (.res .flags)).getLsbD 1 = s.dyn.wPolarity ∧
    (t.word (.res .flags)).getLsbD 2 = s.dyn.tempoValid ∧ (t.word (.res .flags)).getLsbD 3 = s.dyn.wLocked ∧
    (t.word (.res .flags)).getLsbD 4 = (decide (s.dyn.wNfMask0 ≠ 0#32) || decide (s.dyn.wNfMask1 ≠ 0#32)) ∧
    (t.word (.res .flags)).getLsbD 5 = s.dyn.wBpmRej ∧
    (∀ i, 6 ≤ i → (t.word (.res .flags)).getLsbD i = false) ∧
    t.onsetEvt = (s.onsetEvt || s.dyn.wOnset) ∧
    t = { s with busy := false, done := true, lastCycles := t.lastCycles, draws := t.draws, res := t.res,
                 onsetEvt := t.onsetEvt }

/-! ## Sequencer commands -/

/-- NOP has no effect but its completion (40_sequencer.md R122). -/
def Obligations.NopOnlyCompletes : Prop :=
  ∀ s : State, ∃ t, exec .nop s = .next t ∧ t.done = true ∧ t.busy = false ∧ sameWords completionSlot s t ∧
    sameButDraws { s with busy := false, done := true } t

/-- SKIP_HOP counts the drop, saturating, adds one pending hop up to seven, empties the staging buffer and changes nothing
else (40_sequencer.md R125). -/
def Obligations.SkipHopCountsAndDiscards : Prop :=
  ∀ s : State, ∃ t, exec .skipHop s = .next t ∧
    t.droppedCount.toNat = min (s.droppedCount.toNat + 1) 0xFFFFFFFF ∧
    t.dyn.elapsedPend.val = min (s.dyn.elapsedPend.val + 1) 7 ∧
    (∀ i : Fin 128, t.dyn.stage[i] = 0#32) ∧ t.dyn.stageCount.val = 0 ∧
    sameButDraws { s with
      busy := false, done := true, droppedCount := t.droppedCount
      dyn := { s.dyn with elapsedPend := t.dyn.elapsedPend, stage := t.dyn.stage, stageCount := t.dyn.stageCount } } t

/-- CLEAR_STATE zeroes every element of the dynamic state, and every other word but STATUS and LAST_CYCLES keeps its value:
the configuration, the counters, the errors and the result bank among them (40_sequencer.md R123). That the command latch
keeps its opcode is what the model infers (notes/assumptions/13.md, DEDUCED). -/
def Obligations.ClearStateZeroesTheDynamicState : Prop :=
  ∀ s : State, ∃ t, exec .clearState s = .next t ∧ completed s t ∧
    (∀ w, t.word (.work w) = 0#32) ∧ t.word .stageCount = 0#32 ∧ t.word .histWptr = 0#32 ∧ t.word .histFill = 0#32 ∧
    t.word .novWptr = 0#32 ∧ t.word .elapsedPend = 0#32 ∧
    (∀ x : Slot, (∀ w, x ≠ .work w) →
      x ∉ [Slot.stageCount, .histWptr, .histFill, .novWptr, .elapsedPend, .status, .lastCycles] →
      t.word x = s.word x) ∧
    t.onsetEvt = s.onsetEvt ∧ t.pendingCmd = s.pendingCmd

/-- SOFT_RESET: every word reads its power-on value but STATUS, which reads DONE only, and LAST_CYCLES, which holds a draw;
IRQ is low (40_sequencer.md R124, 70_reset_and_hazards.md R190). The model's own fields are not the block's and stay, by its
own choice: the host's accesses and the order of moves (notes/assumptions/1.md) and the value last read
(notes/assumptions/8.md); and the draw is the one numbered `s.draws` (notes/assumptions/5.md). -/
def Obligations.SoftResetIsPowerOnPlusDone : Prop :=
  ∀ s : State, ∃ t, exec .softReset s = .next t ∧ t.word .status = 0x00000002#32 ∧
    t.word .lastCycles = Config.cyclesDraw s.draws ∧ t.irq = false ∧
    sameWords completionSlot State.reset t ∧
    t = { State.reset with done := true, lastCycles := t.lastCycles, draws := t.draws, port := s.port, turns := s.turns,
                           readData := s.readData }

/-- HOP, what it leaves: with a partial chunk only STAGE_UNDERRUN is raised and the chunk is kept. Else the chunk has entered
the history, the raw magnitudes are those of the new history, the onset detector has taken this hop's magnitudes and written
its flux, ELAPSED_PEND is consumed, one hop is counted, the whole bank shows the working values under the next sequence
number with the new count, ONSET_EVT records an onset, and control, configuration and the runtime registers are untouched
(40_sequencer.md R126). -/
def Obligations.HopRunsOrUnderruns : Prop :=
  ∀ s : State, ∃ t, exec .hop s = .next t ∧ completed s t ∧
    (s.dyn.stageCount.val ≠ 128 → sameButDraws { s.raiseErr .stageUnderrun with busy := false, done := true } t) ∧
    (s.dyn.stageCount.val = 128 →
      t.dyn.histWptr.val = (s.dyn.histWptr.val + 128) % 2048 ∧ t.dyn.histFill.val = min (s.dyn.histFill.val + 128) 2048 ∧
      t.dyn.stageCount.val = 0 ∧
      (∀ k : Fin 64, t.dyn.wRaw[k] =
        (if (binRaw s.cfg t.dyn k).finite && ((binRaw s.cfg t.dyn k).mul (val s.cfg.binGain[k])).finite
          then (binRaw s.cfg t.dyn k).toBits else 0#32)) ∧
      t.dyn.prevMag = t.dyn.wMag ∧ t.dyn.novHist[s.dyn.novWptr] = t.dyn.wFlux ∧
      t.dyn.novWptr.val = (s.dyn.novWptr.val + 1) % 128 ∧ t.dyn.elapsedPend.val = 0 ∧
      t.hopCount.toNat = (s.hopCount.toNat + 1) % 2 ^ 32 ∧
      t.res.seq.toNat = (s.res.seq.toNat + 1) % 2 ^ 32 ∧
      t.res = { seq := t.res.seq, novelty := t.dyn.wNovelty, bpm := t.dyn.wBpm, phase01 := t.dyn.wPhase01,
                confidence := t.dyn.wConf, flags := t.dyn.flagBits, winner := t.dyn.wWinner, phase := t.dyn.wPhase,
                numErr := t.numErrCount, hopCount := t.hopCount, nfMask0 := t.dyn.wNfMask0, nfMask1 := t.dyn.wNfMask1,
                powerSum := t.dyn.wPowerSum, flux := t.dyn.wFlux, mag := t.dyn.wMag, fast := t.dyn.wFast,
                slow := t.dyn.wSlow } ∧
      t.onsetEvt = (s.onsetEvt || t.dyn.wOnset) ∧
      t = { s with
        busy := false, done := true, lastCycles := t.lastCycles, draws := t.draws, hopCount := t.hopCount
        onsetEvt := t.onsetEvt, err := t.err, lastCode := t.lastCode, numErrCount := t.numErrCount
        dyn := t.dyn, res := t.res })

/-- A HOP is exactly the five stage commands issued one after another, except that only HOP increments HOP_COUNT, which
R_HOP_COUNT then shows (40_sequencer.md R126); cycle counts and the number of drawn values aside. -/
def Obligations.HopIsTheFiveCommands : Prop :=
  ∀ s t1 t2 t3 t4 t5 t : State, s.dyn.stageCount.val = 128 →
    exec .pushChunk s = .next t1 → exec .runGoertzel t1 = .next t2 → exec .runOnset t2 = .next t3 →
    exec .runTempo t3 = .next t4 → exec .commit t4 = .next t5 → exec .hop s = .next t →
    sameButDraws { t5 with
      hopCount := t5.hopCount + 1#32
      res := { t5.res with hopCount := t5.hopCount + 1#32 } } t

/-! ## Numbers -/

/-- Every sum, difference, product and quotient that is finite is a nearest binary32 to the exact value, and of two nearest
ones the even one; `fsqrt` of a value not below zero is finite and is correctly rounded in the same sense, -0 for -0, and a
NaN below zero (00_scope.md R16). Values are counted in units of 2^-149, in which the exact root is `sqrt(rank * 2^149)`: no
`w` above the result lies nearer to it, which the square of their midpoint shows, and no `w` below. Sums, products and
quotients past the largest finite value are not in this statement. -/
def Obligations.ArithmeticRoundsToNearest : Prop :=
  (∀ a b c : Word, (val a).finite = true → (val b).finite = true → (val c).finite = true →
    (c = ((val a).add (val b)).toBits → nearestEven c ((val a).rank + (val b).rank) 1) ∧
    (c = ((val a).sub (val b)).toBits → nearestEven c ((val a).rank - (val b).rank) 1) ∧
    (c = ((val a).mul (val b)).toBits → nearestEven c ((val a).rank * (val b).rank) (2 ^ 149)) ∧
    (c = ((val a).div (val b)).toBits → (val b).rank ≠ 0 → nearestEven c ((val a).rank * 2 ^ 149) (val b).rank)) ∧
  (∀ a c : Word, (val a).finite = true → 0 ≤ (val a).rank → c = (val a).sqrt.toBits →
    (val c).finite = true ∧ 0 ≤ (val c).rank ∧
    ∀ w : Word, (val w).finite = true → 0 ≤ (val w).rank →
      ((val c).rank < (val w).rank → 4 * ((val a).rank * 2 ^ 149) ≤ ((val c).rank + (val w).rank) ^ 2) ∧
      ((val w).rank < (val c).rank → ((val c).rank + (val w).rank) ^ 2 ≤ 4 * ((val a).rank * 2 ^ 149)) ∧
      ((val w).rank ≠ (val c).rank → ((val c).rank + (val w).rank) ^ 2 = 4 * ((val a).rank * 2 ^ 149) →
        c.getLsbD 0 = false)) ∧
  (∀ a : F32, a.finite = true → a.rank < 0 → a.sqrt = .nan) ∧ F32.sqrt (.fin true 0) = .fin true 0

/-! ## What every step keeps, and what only some steps change -/

/-- Every step keeps the control invariants: the latch of a running command holds an opcode ENABLE allows; while ENABLE = 1
the configuration passes the enable check and CFG_FAIL_ADDR reads `0xFFFFFFFF`; LAST_CODE is a code of the error table, and
is 0 only while no error bit is set (20_memory.md R108, 40_sequencer.md R120, 60_exceptions.md R175). -/
def Obligations.StepKeepsTheControlInvariants : Prop :=
  ∀ s t : State, step s = .next t →
    (s.LatchLegal → t.LatchLegal) ∧ (s.ConfigChecked → t.ConfigChecked) ∧ (s.CodesLegal → t.CodesLegal)

/-- Every step keeps the staging buffer and the history clean: staged elements at or above STAGE_COUNT read 0, every staged
element is a sign-extended sample, and until the history is full its cursor is its fill count and the unfilled region is
zero (10_state.md R47, R88, 41_capture.md R139). -/
def Obligations.StepKeepsTheBuffersClean : Prop :=
  ∀ s t : State, step s = .next t →
    (s.dyn.StageClean → t.dyn.StageClean) ∧ (s.dyn.HistClean → t.dyn.HistClean)

/-- Every step keeps every number the block computes where the spec says it is: magnitudes, smoothed energies,
contributions and confidence in [0, 1], the phases in (-PI_F, PI_F], the beat phase in [0, 1), onset values and resonators
finite, smoothed magnitudes not negative, and no NaN in the result bank, nor an infinity but in R_POWER_SUM
(30_encoding.md R118, 45_commit.md R173). -/
def Obligations.StepKeepsTheNumbersBounded : Prop :=
  ∀ s t : State, s.LatchLegal → s.ConfigChecked → s.NumbersBounded → step s = .next t → t.NumbersBounded

/-- While ENABLE = 1 no step changes the configuration but the completion of a SOFT_RESET, which also clears ENABLE; and a
step that changes it with ENABLE = 0 starts with no command running, or is that completion (20_memory.md R108,
70_reset_and_hazards.md R196). -/
def Obligations.ConfigurationIsLockedWhileEnabled : Prop :=
  ∀ s t : State, step s = .next t → t.cfg ≠ s.cfg →
    (s.enabled = false ∧ s.busy = false ∧ t.enabled = false) ∨
    (s.busy = true ∧ s.pendingCmd = 0x09#8 ∧ t.enabled = false ∧ t.cfg = Cfg.reset)

/-- The result bank changes only at the completion of a COMMIT or a HOP, under the next sequence number, or of a
SOFT_RESET, which zeroes it (20_memory.md R101, 45_commit.md R171). -/
def Obligations.ResultBankChangesOnlyAtCommit : Prop :=
  ∀ s t : State, step s = .next t → t.res ≠ s.res →
    s.busy = true ∧ t.busy = false ∧
    ((s.pendingCmd = 0x05#8 ∨ s.pendingCmd = 0x06#8) ∧ t.res.seq = s.res.seq + 1#32 ∨
      s.pendingCmd = 0x09#8 ∧ t.res = Results.reset)

/-- A host access while a command runs changes no operand of it: only DONE and ONSET_EVT, ERR and LAST_CODE, and IRQ_EN can
change; a write to anything but CMD, STATUS, ERR and IRQ_EN raises BUSY_WRITE and does nothing else, and one to CMD raises
CMD_BUSY and does nothing else (70_reset_and_hazards.md R194). -/
def Obligations.AccessesWhileBusyChangeNoOperand : Prop :=
  ∀ (r : BitVec 64) (i : Instr) (s : State), decode (accessBytes r) = .ok i → s.busy = true →
    ∃ t, exec i s = .next t ∧
      t = { s with done := t.done, onsetEvt := t.onsetEvt, err := t.err, lastCode := t.lastCode, irqEn := t.irqEn,
                   draws := t.draws, readData := t.readData } ∧
      (∀ v, i = .wrCmd v → t = s.raiseErr .cmdBusy) ∧
      (∀ v, i = .wrCtrl v ∨ i = .wrSampleIn v ∨ i = .wrSamplePair v → t = s.raiseErr .busyWrite) ∧
      (∀ off v, i = .wrRuntime off v ∨ i = .wrCfg off v → t = s.raiseErr .busyWrite) ∧
      (∀ size off v, i = .wrOther size off v → t = s.raiseErr .busyWrite)
end

