-- ==== Sys2Proof/Laws/F32.lean ====
section
/-! SUPPORT. binary32 arithmetic: which values a pattern can hold, the round trips between values and patterns, that every
operation answers such a value, and that rounding is monotone and keeps what needs no rounding. -/

namespace Sys2Proof.Machine

/-! ## Representable values -/

/-- A magnitude some finite binary32 has: below 2^277 units, with at most 24 significant bits. -/
def RepUnits (n : Nat) : Prop := n < 2 ^ 277 ∧ 2 ^ dropped n ∣ n

/-- A value some pattern holds. -/
def F32.Rep : F32 → Prop
  | .nan => True
  | .inf _ => True
  | .fin _ n => RepUnits n

theorem dropped_of_lt {n : Nat} (h : n < 2 ^ 24) : dropped n = 0 := by
  unfold dropped
  rcases Nat.eq_zero_or_pos n with rfl | hp
  · rfl
  · have : n.log2 < 24 := (Nat.log2_lt (by omega)).mpr h
    omega

/-- A significand below 2^24 shifted left by `k` is representable. -/
theorem repUnits_shift {m k : Nat} (hm : m ≤ 2 ^ 24) (h : m * 2 ^ k < 2 ^ 277) : RepUnits (m * 2 ^ k) := by
  refine ⟨h, ?_⟩
  rcases Nat.eq_zero_or_pos m with rfl | hp
  · simp
  rcases Nat.lt_or_ge m (2 ^ 24) with hlt | hge
  · have hlog : (m * 2 ^ k).log2 = m.log2 + k := by
      apply (Nat.log2_eq_iff (by positivity)).mpr
      have a := Nat.log2_self_le (n := m) (by omega)
      have b := Nat.lt_log2_self (n := m)
      constructor
      · rw [pow_add]; exact Nat.mul_le_mul_right _ a
      · rw [show m.log2 + k + 1 = (m.log2 + 1) + k by omega, pow_add]
        exact Nat.mul_lt_mul_of_pos_right b (by positivity)
    have hm' : m.log2 < 24 := (Nat.log2_lt (by omega)).mpr hlt
    exact Dvd.dvd.mul_left (pow_dvd_pow 2 (by unfold dropped; omega)) m
  · have hm24 : m = 2 ^ 24 := by omega
    subst hm24
    rw [← pow_add]
    apply pow_dvd_pow
    unfold dropped
    rw [Nat.log2_two_pow]
    omega

theorem repUnits_zero : RepUnits 0 := ⟨by positivity, by simp⟩

theorem repUnits_small {n : Nat} (h : n ≤ 2 ^ 24) : RepUnits n := by
  have := repUnits_shift (m := n) (k := 0) h (by
    rw [pow_zero, mul_one]; exact lt_of_le_of_lt h (Nat.pow_lt_pow_right (by omega) (by omega)))
  simpa using this

/-! ## Patterns (00_scope.md R15, 30_encoding.md R115) -/

/-- Every pattern holds a representable value. -/
theorem F32.rep_ofBits (w : Word) : (F32.ofBits w).Rep := by
  have hf : (w.extractLsb' 0 23).toNat < 2 ^ 23 := (w.extractLsb' 0 23).isLt
  have he : (w.extractLsb' 23 8).toNat < 2 ^ 8 := (w.extractLsb' 23 8).isLt
  unfold F32.ofBits
  simp only
  split
  · split <;> trivial
  · split
    · exact repUnits_small (by omega)
    · rename_i h1 h2
      apply repUnits_shift
      · omega
      · calc (2 ^ 23 + (w.extractLsb' 0 23).toNat) * 2 ^ ((w.extractLsb' 23 8).toNat - 1)
            < 2 ^ 24 * 2 ^ ((w.extractLsb' 23 8).toNat - 1) :=
              Nat.mul_lt_mul_of_pos_right (by omega) (by positivity)
          _ = 2 ^ (24 + ((w.extractLsb' 23 8).toNat - 1)) := by rw [pow_add]
          _ ≤ 2 ^ 277 := Nat.pow_le_pow_right (by omega) (by omega)

/-- The fields of a pattern built from a sign and 31 bits. -/
theorem F32.signed_fields (neg : Bool) {x : Nat} (hx : x < 2 ^ 31) :
    (F32.signed neg x).getLsbD 31 = neg ∧ ((F32.signed neg x).extractLsb' 23 8).toNat = x / 2 ^ 23 ∧
      ((F32.signed neg x).extractLsb' 0 23).toNat = x % 2 ^ 23 := by
  have hlt : (if neg then 2 ^ 31 else 0) + x < 2 ^ 32 := by split <;> omega
  have hn : (F32.signed neg x).toNat = (if neg then 2 ^ 31 else 0) + x := by
    unfold F32.signed; rw [BitVec.toNat_ofNat, Nat.mod_eq_of_lt hlt]
  refine ⟨?_, ?_, ?_⟩
  · rw [BitVec.getLsbD, hn, Nat.testBit_eq_decide_div_mod_eq]
    cases neg <;> simp <;> omega
  · rw [BitVec.extractLsb'_toNat, hn, Nat.shiftRight_eq_div_pow]
    cases neg <;> (simp; omega)
  · rw [BitVec.extractLsb'_toNat, hn, Nat.shiftRight_zero]
    cases neg <;> simp <;> omega

/-- What the pattern of a sign and 31 bits of fields holds. -/
theorem F32.ofBits_signed (neg : Bool) {x : Nat} (hx : x < 2 ^ 31) :
    F32.ofBits (F32.signed neg x) =
      if x / 2 ^ 23 = 255 then (if x % 2 ^ 23 = 0 then .inf neg else .nan)
      else if x / 2 ^ 23 = 0 then .fin neg (x % 2 ^ 23)
      else .fin neg ((2 ^ 23 + x % 2 ^ 23) * 2 ^ (x / 2 ^ 23 - 1)) := by
  obtain ⟨h1, h2, h3⟩ := F32.signed_fields neg hx
  unfold F32.ofBits
  simp only [h1, h2, h3]

/-- A normal magnitude splits into its exponent and significand fields. -/
theorem F32.fieldsOf_normal {n : Nat} (h : RepUnits n) (hn : 2 ^ 23 ≤ n) :
    F32.fieldsOf n = (n.log2 - 22) * 2 ^ 23 + (n / 2 ^ (n.log2 - 23) - 2 ^ 23) ∧ 2 ^ 23 ≤ n / 2 ^ (n.log2 - 23) ∧
      n / 2 ^ (n.log2 - 23) < 2 ^ 24 ∧ n / 2 ^ (n.log2 - 23) * 2 ^ (n.log2 - 23) = n ∧ 23 ≤ n.log2 ∧ n.log2 < 277 := by
  have hpos : n ≠ 0 := by omega
  have hlog : 23 ≤ n.log2 := (Nat.le_log2 hpos).mpr hn
  have hlog' : n.log2 < 277 := (Nat.log2_lt hpos).mpr h.1
  have a := Nat.log2_self_le hpos
  have b := Nat.lt_log2_self (n := n)
  have e1 : 2 ^ n.log2 = 2 ^ 23 * 2 ^ (n.log2 - 23) := by rw [← pow_add]; congr 1; omega
  have e2 : 2 ^ (n.log2 + 1) = 2 ^ 24 * 2 ^ (n.log2 - 23) := by rw [← pow_add]; congr 1; omega
  have c1 : 2 ^ 23 ≤ n / 2 ^ (n.log2 - 23) := (Nat.le_div_iff_mul_le (by positivity)).mpr (by omega)
  have c2 : n / 2 ^ (n.log2 - 23) < 2 ^ 24 := (Nat.div_lt_iff_lt_mul (by positivity)).mpr (by omega)
  refine ⟨?_, c1, c2, Nat.div_mul_cancel h.2, hlog, hlog'⟩
  unfold F32.fieldsOf
  rw [if_neg (by omega)]
  have : n.log2 - 22 = (n.log2 - 23) + 1 := by omega
  rw [this, Nat.add_mul]
  omega

/-- A value that is not a NaN is what its pattern holds, whatever pattern stands for the NaNs. -/
theorem F32.ofBits_bitsWith {x : F32} (nan : Word) (hx : x.Rep) (ho : x.ordered = true) :
    F32.ofBits (x.bitsWith nan) = x := by
  cases x with
  | nan => cases ho
  | inf s =>
    show F32.ofBits (F32.signed s 0x7F800000) = _
    rw [F32.ofBits_signed s (by decide)]
    simp
  | fin s n =>
    show F32.ofBits (F32.signed s (F32.fieldsOf n)) = _
    rcases Nat.lt_or_ge n (2 ^ 23) with hlt | hge
    · have : F32.fieldsOf n = n := by unfold F32.fieldsOf; rw [if_pos hlt]
      rw [this, F32.ofBits_signed s (by omega)]
      have h0 : n / 2 ^ 23 = 0 := Nat.div_eq_of_lt hlt
      rw [h0, Nat.mod_eq_of_lt hlt]
      simp
    · obtain ⟨hf, h1, h2, h3, h4, h5⟩ := F32.fieldsOf_normal hx hge
      have hlt : F32.fieldsOf n < 2 ^ 31 := by rw [hf]; omega
      have hd : F32.fieldsOf n / 2 ^ 23 = n.log2 - 22 := by rw [hf]; omega
      have hm : F32.fieldsOf n % 2 ^ 23 = n / 2 ^ (n.log2 - 23) - 2 ^ 23 := by rw [hf]; omega
      rw [F32.ofBits_signed s hlt, hd, hm, if_neg (by omega), if_neg (by omega)]
      rw [Nat.add_sub_cancel' h1, show n.log2 - 22 - 1 = n.log2 - 23 by omega, h3]

/-- Every pattern of a NaN holds a NaN. -/
theorem F32.ofBits_nanPattern (neg : Bool) (f : Fin 8388607) : F32.ofBits (F32.nanPattern neg f) = .nan := by
  have hf := f.isLt
  unfold F32.nanPattern
  rw [F32.ofBits_signed neg (by omega), if_pos (by omega), if_neg (by omega)]

/-- A stored value reads back. -/
theorem F32.ofBits_toBits {x : F32} (hx : x.Rep) : F32.ofBits x.toBits = x := by
  cases x with
  | nan => unfold F32.toBits F32.bitsWith; exact F32.ofBits_nanPattern _ _
  | inf s => unfold F32.toBits; exact F32.ofBits_bitsWith _ hx rfl
  | fin s n => unfold F32.toBits; exact F32.ofBits_bitsWith _ hx rfl

/-- A history element reads back. -/
theorem F32.ofBits_toHistBits {x : F32} (hx : x.Rep) (n : Nat) : F32.ofBits (x.toHistBits n) = x := by
  cases x with
  | nan => unfold F32.toHistBits F32.bitsWith; exact F32.ofBits_nanPattern _ _
  | inf s => unfold F32.toHistBits; exact F32.ofBits_bitsWith _ hx rfl
  | fin s n => unfold F32.toHistBits; exact F32.ofBits_bitsWith _ hx rfl

/-- The pattern of a finite value reads back as that pattern. -/
theorem F32.toBits_ofBits {w : Word} (h : (F32.ofBits w).ordered = true) : (F32.ofBits w).toBits = w := by
  have key : ∀ (neg : Bool) (x : Nat), x < 2 ^ 31 → (F32.ofBits (F32.signed neg x)).ordered = true →
      (F32.ofBits (F32.signed neg x)).toBits = F32.signed neg x := by
    intro neg x hx ho
    rw [F32.ofBits_signed neg hx] at ho ⊢
    split at ho
    · split at ho
      · rename_i h1 h2
        rw [if_pos h1, if_pos h2]
        show F32.signed neg 0x7F800000 = _
        rw [show x = 0x7F800000 by omega]
      · cases ho
    · rename_i h1
      rw [if_neg h1]
      split
      · rename_i h2
        have hlt : x < 2 ^ 23 := by omega
        show F32.signed neg (F32.fieldsOf (x % 2 ^ 23)) = _
        unfold F32.fieldsOf
        rw [Nat.mod_eq_of_lt hlt, if_pos hlt]
      · rename_i h2
        show F32.signed neg (F32.fieldsOf _) = _
        have hm : x % 2 ^ 23 < 2 ^ 23 := Nat.mod_lt _ (by decide)
        generalize hk : x / 2 ^ 23 - 1 = k
        generalize hf : x % 2 ^ 23 = f at hm ⊢
        have hlog : ((2 ^ 23 + f) * 2 ^ k).log2 = 23 + k := by
          apply (Nat.log2_eq_iff (by positivity)).mpr
          constructor
          · rw [pow_add]; exact Nat.mul_le_mul_right _ (by omega)
          · rw [show 23 + k + 1 = 24 + k by omega, pow_add]
            exact Nat.mul_lt_mul_of_pos_right (by omega) (by positivity)
        have hge : ¬ (2 ^ 23 + f) * 2 ^ k < 2 ^ 23 := by
          have : 1 ≤ 2 ^ k := Nat.one_le_two_pow
          nlinarith
        unfold F32.fieldsOf
        rw [if_neg hge, hlog, show 23 + k - 23 = k by omega, Nat.mul_div_cancel _ (by positivity)]
        congr 1
        omega
  have hw : w = F32.signed (w.getLsbD 31) (w.toNat % 2 ^ 31) := by
    apply BitVec.eq_of_toNat_eq
    have := w.isLt
    unfold F32.signed
    rw [BitVec.toNat_ofNat, BitVec.getLsbD, Nat.testBit_eq_decide_div_mod_eq]
    by_cases hb : w.toNat / 2 ^ 31 % 2 = 1
    · simp only [hb, decide_true, if_true]; omega
    · simp only [hb, decide_false, Bool.false_eq_true, if_false]; omega
  rw [hw] at h ⊢
  exact key _ _ (Nat.mod_lt _ (by decide)) h

/-! ## Rounding (00_scope.md R16) -/

/-- Rounding does not fall below a whole number the exact value reaches. -/
theorem le_roundInt {m num den : Nat} (hd : 0 < den) (h : m * den ≤ num) : m ≤ roundInt num den := by
  have hq : m ≤ num / den := (Nat.le_div_iff_mul_le hd).mpr h
  unfold roundInt
  simp only
  split
  · exact hq
  · split <;> omega

/-- Rounding does not rise above a whole number the exact value stays at or below. -/
theorem roundInt_le {m num den : Nat} (hd : 0 < den) (h : num ≤ m * den) : roundInt num den ≤ m := by
  have hdm := Nat.div_add_mod num den
  have hr := Nat.mod_lt num hd
  have hq : num / den ≤ m := Nat.div_le_of_le_mul (by rw [Nat.mul_comm]; exact h)
  have hq' : num / den = m → num % den = 0 := by
    intro e
    have h' : den * m + num % den = num := by rw [← e]; exact hdm
    have : den * m = m * den := Nat.mul_comm ..
    omega
  unfold roundInt
  simp only
  split
  · exact hq
  · split
    · by_cases e : num / den = m
      · have := hq' e; omega
      · omega
    · by_cases e : num / den = m
      · have := hq' e; omega
      · omega

/-- A whole number is rounded to itself. -/
theorem roundInt_exact {m den : Nat} (hd : 0 < den) : roundInt (m * den) den = m :=
  Nat.le_antisymm (roundInt_le hd le_rfl) (le_roundInt hd le_rfl)

/-- Rounding to an integer is monotone in the exact value. -/
theorem roundInt_mono {n₁ d₁ n₂ d₂ : Nat} (h₁ : 0 < d₁) (h₂ : 0 < d₂) (h : n₁ * d₂ ≤ n₂ * d₁) :
    roundInt n₁ d₁ ≤ roundInt n₂ d₂ := by
  have e₁ := Nat.div_add_mod n₁ d₁
  have e₂ := Nat.div_add_mod n₂ d₂
  have r₁ := Nat.mod_lt n₁ h₁
  have r₂ := Nat.mod_lt n₂ h₂
  have hq : n₁ / d₁ ≤ n₂ / d₂ := by
    rw [Nat.le_div_iff_mul_le h₂]
    by_contra hc
    have : n₂ * d₁ < n₁ / d₁ * d₂ * d₁ := Nat.mul_lt_mul_of_pos_right (by omega) h₁
    have : n₁ / d₁ * d₁ * d₂ ≤ n₁ * d₂ := Nat.mul_le_mul_right _ (Nat.div_mul_le_self ..)
    nlinarith
  rcases Nat.lt_or_ge (n₁ / d₁) (n₂ / d₂) with hlt | hge
  · calc roundInt n₁ d₁ ≤ n₁ / d₁ + 1 := roundInt_le h₁ (by rw [Nat.add_mul, Nat.mul_comm]; omega)
      _ ≤ n₂ / d₂ := hlt
      _ ≤ roundInt n₂ d₂ := le_roundInt h₂ (Nat.div_mul_le_self ..)
  · have hqq : n₁ / d₁ = n₂ / d₂ := by omega
    have hr : n₁ % d₁ * d₂ ≤ n₂ % d₂ * d₁ := by
      have a : n₁ * d₂ = d₁ * d₂ * (n₁ / d₁) + n₁ % d₁ * d₂ := by
        calc n₁ * d₂ = (d₁ * (n₁ / d₁) + n₁ % d₁) * d₂ := by rw [e₁]
          _ = _ := by ring
      have b : n₂ * d₁ = d₁ * d₂ * (n₁ / d₁) + n₂ % d₂ * d₁ := by
        calc n₂ * d₁ = (d₂ * (n₂ / d₂) + n₂ % d₂) * d₁ := by rw [e₂]
          _ = _ := by rw [hqq]; ring
      omega
    have up : d₁ < 2 * (n₁ % d₁) → d₂ < 2 * (n₂ % d₂) := by
      intro hc
      have : d₁ * d₂ < 2 * (n₁ % d₁) * d₂ := Nat.mul_lt_mul_of_pos_right hc h₂
      by_contra hn
      have : 2 * (n₂ % d₂) * d₁ ≤ d₂ * d₁ := Nat.mul_le_mul_right _ (by omega)
      nlinarith
    have up' : d₁ ≤ 2 * (n₁ % d₁) → d₂ ≤ 2 * (n₂ % d₂) := by
      intro hc
      have : d₁ * d₂ ≤ 2 * (n₁ % d₁) * d₂ := Nat.mul_le_mul_right _ hc
      by_contra hn
      have : 2 * (n₂ % d₂) * d₁ < d₂ * d₁ := Nat.mul_lt_mul_of_pos_right (by omega) h₁
      nlinarith
    unfold roundInt
    simp only [hqq]
    split <;> split <;> (try split) <;> (try split) <;> omega

theorem dropped_mono {a b : Nat} (h : a ≤ b) : dropped a ≤ dropped b := by
  unfold dropped
  rcases Nat.eq_zero_or_pos a with rfl | hp
  · simp
  · have := (Nat.le_log2 (n := b) (by omega)).mpr (le_trans (Nat.log2_self_le (by omega)) h)
    omega

/-- A magnitude of `n` whole units lies below 2^24 of the last place kept. -/
theorem lt_dropped (n : Nat) : n < 2 ^ 24 * 2 ^ dropped n := by
  have := Nat.lt_log2_self (n := n)
  refine lt_of_lt_of_le this ?_
  rw [← pow_add]
  exact Nat.pow_le_pow_right (by omega) (by unfold dropped; omega)

/-- Where bits are dropped, a magnitude fills its 24 bits. -/
theorem dropped_le {n : Nat} (h : 0 < dropped n) : 2 ^ 23 * 2 ^ dropped n ≤ n := by
  have hn : n ≠ 0 := by rintro rfl; simp [dropped] at h
  rw [← pow_add, show 23 + dropped n = n.log2 by unfold dropped at h ⊢; omega]
  exact Nat.log2_self_le hn

theorem roundRatio_le_top (num : Nat) {den : Nat} (hd : 0 < den) :
    roundInt num (den * 2 ^ dropped (num / den)) ≤ 2 ^ 24 := by
  apply roundInt_le (by positivity)
  have h := lt_dropped (num / den)
  have := (Nat.div_lt_iff_lt_mul hd).mp h
  nlinarith

/-- A rounded magnitude below 2^277 units is representable. -/
theorem repUnits_roundRatio {num den : Nat} (hd : 0 < den) (h : roundRatio num den < 2 ^ 277) :
    RepUnits (roundRatio num den) :=
  repUnits_shift (roundRatio_le_top num hd) h

/-- What needs no rounding is kept. -/
theorem roundRatio_exact {n den : Nat} (hd : 0 < den) (hn : 2 ^ dropped n ∣ n) : roundRatio (n * den) den = n := by
  obtain ⟨m, hm⟩ := hn
  unfold roundRatio
  simp only [Nat.mul_div_cancel n hd]
  have : n * den = m * (den * 2 ^ dropped n) := by
    calc n * den = (2 ^ dropped n * m) * den := by rw [← hm]
      _ = _ := by ring
  rw [this, roundInt_exact (by positivity), Nat.mul_comm]
  exact hm.symm

/-- Rounding to 24 bits is monotone in the exact value. -/
theorem roundRatio_mono {n₁ d₁ n₂ d₂ : Nat} (h₁ : 0 < d₁) (h₂ : 0 < d₂) (h : n₁ * d₂ ≤ n₂ * d₁) :
    roundRatio n₁ d₁ ≤ roundRatio n₂ d₂ := by
  have hq : n₁ / d₁ ≤ n₂ / d₂ := by
    rw [Nat.le_div_iff_mul_le h₂]
    by_contra hc
    have a : n₂ * d₁ < n₁ / d₁ * d₂ * d₁ := Nat.mul_lt_mul_of_pos_right (by omega) h₁
    have b : n₁ / d₁ * d₁ * d₂ ≤ n₁ * d₂ := Nat.mul_le_mul_right _ (Nat.div_mul_le_self ..)
    nlinarith
  have hk := dropped_mono hq
  unfold roundRatio
  simp only
  rcases Nat.lt_or_ge (dropped (n₁ / d₁)) (dropped (n₂ / d₂)) with hlt | hge
  · have top := roundRatio_le_top n₁ h₁
    have bot : 2 ^ 23 ≤ roundInt n₂ (d₂ * 2 ^ dropped (n₂ / d₂)) := by
      apply le_roundInt (by positivity)
      have a := dropped_le (n := n₂ / d₂) (by omega)
      have := (Nat.le_div_iff_mul_le h₂).mp a
      nlinarith
    calc _ ≤ 2 ^ 24 * 2 ^ dropped (n₁ / d₁) := Nat.mul_le_mul_right _ top
      _ = 2 ^ 23 * 2 ^ (dropped (n₁ / d₁) + 1) := by rw [pow_succ 2 (dropped _)]; ring
      _ ≤ 2 ^ 23 * 2 ^ dropped (n₂ / d₂) := Nat.mul_le_mul_left _ (Nat.pow_le_pow_right (by omega) hlt)
      _ ≤ _ := Nat.mul_le_mul_right _ bot
  · rw [show dropped (n₁ / d₁) = dropped (n₂ / d₂) by omega]
    apply Nat.mul_le_mul_right
    apply roundInt_mono (by positivity) (by positivity)
    generalize 2 ^ dropped (n₂ / d₂) = p
    calc n₁ * (d₂ * p) = n₁ * d₂ * p := by ring
      _ ≤ n₂ * d₁ * p := Nat.mul_le_mul_right _ h
      _ = n₂ * (d₁ * p) := by ring

theorem isqrtBelow_lt (n bits root : Nat) : isqrtBelow n bits root < root + 2 ^ bits := by
  induction bits generalizing root with
  | zero => simp [isqrtBelow]
  | succ b ih =>
    unfold isqrtBelow
    simp only
    split
    · have := ih (root + 2 ^ b); rw [pow_succ]; omega
    · have := ih root; rw [pow_succ]; omega

theorem repUnits_roundRoot {m : Nat} (h : roundRoot m < 2 ^ 277) : RepUnits (roundRoot m) := by
  unfold roundRoot at h ⊢
  simp only at h ⊢
  refine repUnits_shift ?_ h
  have := isqrtBelow_lt (m / 4 ^ (m.log2 / 2 - 23)) 24 0
  split
  · omega
  · split <;> omega

/-! ## Every operation answers a representable value -/

theorem F32.rep_ofMagnitude {neg : Bool} {n : Nat} (h : n < 2 ^ 277 → RepUnits n) : (F32.ofMagnitude neg n).Rep := by
  unfold F32.ofMagnitude
  split
  · exact h ‹_›
  · trivial

theorem F32.rep_ofSum (b : Bool) (z : Int) : (F32.ofSum b z).Rep := by
  unfold F32.ofSum
  split
  · exact repUnits_zero
  · exact F32.rep_ofMagnitude (repUnits_roundRatio (by decide))

theorem F32.rep_ofInt (n : Int) : (F32.ofInt n).Rep := F32.rep_ofSum _ _

theorem F32.rep_neg {a : F32} (h : a.Rep) : a.neg.Rep := by cases a <;> exact h

theorem F32.rep_ite {c : Prop} [Decidable c] {a b : F32} (ha : a.Rep) (hb : b.Rep) : (if c then a else b).Rep := by
  split <;> assumption

theorem F32.rep_add (a b : F32) : (a.add b).Rep := by
  cases a <;> cases b <;> simp only [F32.add] <;> first
    | trivial
    | exact F32.rep_ofSum _ _
    | exact F32.rep_ite trivial trivial

theorem F32.rep_sub (a b : F32) : (a.sub b).Rep := F32.rep_add _ _

theorem F32.rep_mul (a b : F32) : (a.mul b).Rep := by
  cases a <;> cases b <;> simp only [F32.mul] <;> first
    | trivial
    | exact F32.rep_ofMagnitude (repUnits_roundRatio (by positivity))
    | exact F32.rep_ite trivial trivial

theorem F32.rep_div (a b : F32) : (a.div b).Rep := by
  cases a <;> cases b <;> simp only [F32.div] <;> first
    | trivial
    | exact repUnits_zero
    | (split
       · exact F32.rep_ite trivial trivial
       · exact F32.rep_ofMagnitude (repUnits_roundRatio (by omega)))

theorem F32.rep_sqrt (a : F32) : a.sqrt.Rep := by
  cases a with
  | nan => trivial
  | inf s => simp only [F32.sqrt]; exact F32.rep_ite trivial trivial
  | fin s n =>
    unfold F32.sqrt
    simp only
    split
    · exact repUnits_zero
    · split
      · trivial
      · exact F32.rep_ofMagnitude repUnits_roundRoot

theorem F32.rep_fmin {a b : F32} (ha : a.Rep) (hb : b.Rep) : (a.fmin b).Rep := by
  unfold F32.fmin; split <;> assumption

theorem F32.rep_fmax {a b : F32} (ha : a.Rep) (hb : b.Rep) : (a.fmax b).Rep := by
  unfold F32.fmax; split <;> assumption

theorem F32.rep_zero : F32.zero.Rep := repUnits_zero
theorem F32.rep_one : F32.one.Rep := F32.rep_ofBits _
theorem F32.rep_pi : F32.pi.Rep := F32.rep_ofBits _

end Sys2Proof.Machine
end

