-- ==== Sys2Proof/Laws/Map.lean ====
section
/-! SUPPORT. The address map and the enable check: every configuration word is in the list the check visits, so the check
passes exactly when every word's does. -/

namespace Sys2Proof.Machine

/-- Every scalar is in the list of scalars. -/
theorem CfgReg.mem_all (r : CfgReg) : r ∈ CfgReg.all := by cases r <;> decide

/-- Every configuration word is visited by the enable check (40_sequencer.md R128). -/
theorem CfgWord.mem_all (w : CfgWord) : w ∈ CfgWord.all := by
  cases w with
  | scalar r => simp [CfgWord.all, CfgReg.mem_all]
  | bin t k => cases t <;> simp [CfgWord.all]
  | osc t m => cases t <;> simp [CfgWord.all]
  | win j => simp [CfgWord.all]

/-- The enable check passes if every word's check does (40_sequencer.md R128). -/
theorem Cfg.validate_eq_none {c : Cfg} (h : ∀ w, c.check w = true) : c.validate = none := by
  simp [Cfg.validate, h]

/-- A word of a configuration that passed the enable check passes its own check. -/
theorem Cfg.check_of_validate {c : Cfg} (h : c.validate = none) (w : CfgWord) : c.check w = true := by
  have := List.find?_eq_none.mp h w (CfgWord.mem_all w)
  simpa using this

/-- The word the enable check reports is one that fails. -/
theorem Cfg.check_of_validate_some {c : Cfg} {w : CfgWord} (h : c.validate = some w) : c.check w = false := by
  have := List.find?_some h
  simpa using this

/-! ## Reading and writing configuration words (40_sequencer.md R129) -/

theorem Cfg.getReg_setReg (c : Cfg) (r r' : CfgReg) (v : Word) :
    (c.setReg r v).getReg r' = if r' = r then v else c.getReg r' := by
  cases r <;> cases r' <;> rfl

@[simp] theorem Cfg.binTable_setReg (c : Cfg) (r : CfgReg) (v : Word) (t : BinTable) :
    (c.setReg r v).binTable t = c.binTable t := by
  cases r <;> rfl

@[simp] theorem Cfg.oscTable_setReg (c : Cfg) (r : CfgReg) (v : Word) (t : OscTable) :
    (c.setReg r v).oscTable t = c.oscTable t := by
  cases r <;> rfl

@[simp] theorem Cfg.winLut_setReg (c : Cfg) (r : CfgReg) (v : Word) : (c.setReg r v).winLut = c.winLut := by
  cases r <;> rfl

/-- A word just written reads back. -/
theorem Cfg.get_set_same (c : Cfg) (w : CfgWord) (v : Word) : (c.set w v).get w = v := by
  cases w with
  | scalar r => simp [Cfg.set, Cfg.get, Cfg.getReg_setReg]
  | bin t k => cases t <;> simp [Cfg.set, Cfg.get, Cfg.binTable]
  | osc t m => cases t <;> simp [Cfg.set, Cfg.get, Cfg.oscTable]
  | win j => simp [Cfg.set, Cfg.get]

/-- A write leaves every other configuration word alone. -/
theorem Cfg.get_set_other (c : Cfg) {w w' : CfgWord} (v : Word) (h : w' ≠ w) : (c.set w v).get w' = c.get w' := by
  have fin_ne : ∀ {n : Nat} {a b : Fin n}, a ≠ b → (a : Nat) ≠ (b : Nat) := fun h e => h (Fin.ext e)
  cases w with
  | scalar r =>
    cases w' with
    | scalar r' =>
      have : r' ≠ r := fun e => h (by rw [e])
      simp [Cfg.set, Cfg.get, Cfg.getReg_setReg, this]
    | bin t k => simp [Cfg.set, Cfg.get]
    | osc t k => simp [Cfg.set, Cfg.get]
    | win k => simp [Cfg.set, Cfg.get]
  | bin t k =>
    cases w' with
    | scalar r' => cases t <;> cases r' <;> rfl
    | osc t' m => cases t <;> cases t' <;> rfl
    | win j => cases t <;> rfl
    | bin t' k' =>
      cases t <;> cases t' <;> first
        | rfl
        | (have hk : k ≠ k' := fun e => h (by rw [e])
           have := fin_ne hk
           simp [Cfg.set, Cfg.get, Cfg.binTable, this])
  | osc t m =>
    cases w' with
    | scalar r' => cases t <;> cases r' <;> rfl
    | bin t' k => cases t <;> cases t' <;> rfl
    | win j => cases t <;> rfl
    | osc t' m' =>
      cases t <;> cases t' <;> first
        | rfl
        | (have hk : m ≠ m' := fun e => h (by rw [e])
           have := fin_ne hk
           simp [Cfg.set, Cfg.get, Cfg.oscTable, this])
  | win j =>
    cases w' with
    | scalar r' => cases r' <;> rfl
    | bin t k => cases t <;> rfl
    | osc t k => cases t <;> rfl
    | win j' =>
      have hk : j ≠ j' := fun e => h (by rw [e])
      have := fin_ne hk
      simp [Cfg.set, Cfg.get, this]

/-! ## Offsets (10_state.md R25) -/

/-- The element an array names at an offset is at that offset. -/
theorem elemAt_eq_some {base n a : Nat} {i : Fin n} :
    elemAt base n a = some i ↔ base ≤ a ∧ a % 4 = 0 ∧ (a - base) / 4 = i.val := by
  unfold elemAt
  constructor
  · intro h
    split at h
    · rename_i hc
      cases h
      exact ⟨hc.2.1, hc.1, rfl⟩
    · cases h
  · rintro ⟨h1, h2, h3⟩
    have hlt : (a - base) / 4 < n := by rw [h3]; exact i.isLt
    rw [dif_pos ⟨h2, h1, hlt⟩]
    exact congrArg some (Fin.ext h3)

/-- No element of an array is named outside its range. -/
theorem elemAt_eq_none {base n a : Nat} (h : a < base ∨ base + 4 * n ≤ a ∨ a % 4 ≠ 0) : elemAt base n a = none := by
  unfold elemAt
  rw [dif_neg]
  rintro ⟨h1, h2, h3⟩
  omega

end Sys2Proof.Machine
end

