-- ==== Sys2Proof/Laws/State.lean ====
section
/-! SUPPORT. What each shared update leaves in each field of State: one lemma per field per update. -/

namespace Sys2Proof.Machine

/-! ## raiseErr (60_exceptions.md R176) -/

@[simp] theorem State.raiseErr_err (s : State) (e : Err) : (s.raiseErr e).err = s.err ||| e.mask := rfl
@[simp] theorem State.raiseErr_lastCode (s : State) (e : Err) : (s.raiseErr e).lastCode = e.code := rfl
@[simp] theorem State.raiseErr_ctrl (s : State) (e : Err) : (s.raiseErr e).ctrl = s.ctrl := rfl
@[simp] theorem State.raiseErr_busy (s : State) (e : Err) : (s.raiseErr e).busy = s.busy := rfl
@[simp] theorem State.raiseErr_pendingCmd (s : State) (e : Err) : (s.raiseErr e).pendingCmd = s.pendingCmd := rfl
@[simp] theorem State.raiseErr_done (s : State) (e : Err) : (s.raiseErr e).done = s.done := rfl
@[simp] theorem State.raiseErr_onsetEvt (s : State) (e : Err) : (s.raiseErr e).onsetEvt = s.onsetEvt := rfl
@[simp] theorem State.raiseErr_cfgFailAddr (s : State) (e : Err) : (s.raiseErr e).cfgFailAddr = s.cfgFailAddr := rfl
@[simp] theorem State.raiseErr_irqEn (s : State) (e : Err) : (s.raiseErr e).irqEn = s.irqEn := rfl
@[simp] theorem State.raiseErr_dcOffset (s : State) (e : Err) : (s.raiseErr e).dcOffset = s.dcOffset := rfl
@[simp] theorem State.raiseErr_novInject (s : State) (e : Err) : (s.raiseErr e).novInject = s.novInject := rfl
@[simp] theorem State.raiseErr_hopCount (s : State) (e : Err) : (s.raiseErr e).hopCount = s.hopCount := rfl
@[simp] theorem State.raiseErr_droppedCount (s : State) (e : Err) : (s.raiseErr e).droppedCount = s.droppedCount := rfl
@[simp] theorem State.raiseErr_numErrCount (s : State) (e : Err) : (s.raiseErr e).numErrCount = s.numErrCount := rfl
@[simp] theorem State.raiseErr_lastCycles (s : State) (e : Err) : (s.raiseErr e).lastCycles = s.lastCycles := rfl
@[simp] theorem State.raiseErr_cfg (s : State) (e : Err) : (s.raiseErr e).cfg = s.cfg := rfl
@[simp] theorem State.raiseErr_dyn (s : State) (e : Err) : (s.raiseErr e).dyn = s.dyn := rfl
@[simp] theorem State.raiseErr_res (s : State) (e : Err) : (s.raiseErr e).res = s.res := rfl
@[simp] theorem State.raiseErr_port (s : State) (e : Err) : (s.raiseErr e).port = s.port := rfl
@[simp] theorem State.raiseErr_turns (s : State) (e : Err) : (s.raiseErr e).turns = s.turns := rfl
@[simp] theorem State.raiseErr_draws (s : State) (e : Err) : (s.raiseErr e).draws = s.draws := rfl
@[simp] theorem State.raiseErr_readData (s : State) (e : Err) : (s.raiseErr e).readData = s.readData := rfl

/-! ## numfault (60_exceptions.md R177) -/

@[simp] theorem State.numfault_err (s : State) : (s.numfault).err = s.err ||| Err.numeric.mask := rfl
@[simp] theorem State.numfault_lastCode (s : State) : (s.numfault).lastCode = Err.numeric.code := rfl
@[simp] theorem State.numfault_numErrCount (s : State) : (s.numfault).numErrCount = satIncr s.numErrCount := rfl
@[simp] theorem State.numfault_ctrl (s : State) : (s.numfault).ctrl = s.ctrl := rfl
@[simp] theorem State.numfault_busy (s : State) : (s.numfault).busy = s.busy := rfl
@[simp] theorem State.numfault_pendingCmd (s : State) : (s.numfault).pendingCmd = s.pendingCmd := rfl
@[simp] theorem State.numfault_done (s : State) : (s.numfault).done = s.done := rfl
@[simp] theorem State.numfault_onsetEvt (s : State) : (s.numfault).onsetEvt = s.onsetEvt := rfl
@[simp] theorem State.numfault_cfgFailAddr (s : State) : (s.numfault).cfgFailAddr = s.cfgFailAddr := rfl
@[simp] theorem State.numfault_irqEn (s : State) : (s.numfault).irqEn = s.irqEn := rfl
@[simp] theorem State.numfault_dcOffset (s : State) : (s.numfault).dcOffset = s.dcOffset := rfl
@[simp] theorem State.numfault_novInject (s : State) : (s.numfault).novInject = s.novInject := rfl
@[simp] theorem State.numfault_hopCount (s : State) : (s.numfault).hopCount = s.hopCount := rfl
@[simp] theorem State.numfault_droppedCount (s : State) : (s.numfault).droppedCount = s.droppedCount := rfl
@[simp] theorem State.numfault_lastCycles (s : State) : (s.numfault).lastCycles = s.lastCycles := rfl
@[simp] theorem State.numfault_cfg (s : State) : (s.numfault).cfg = s.cfg := rfl
@[simp] theorem State.numfault_dyn (s : State) : (s.numfault).dyn = s.dyn := rfl
@[simp] theorem State.numfault_res (s : State) : (s.numfault).res = s.res := rfl
@[simp] theorem State.numfault_port (s : State) : (s.numfault).port = s.port := rfl
@[simp] theorem State.numfault_turns (s : State) : (s.numfault).turns = s.turns := rfl
@[simp] theorem State.numfault_draws (s : State) : (s.numfault).draws = s.draws := rfl
@[simp] theorem State.numfault_readData (s : State) : (s.numfault).readData = s.readData := rfl

/-! ## numfaultIf -/

@[simp] theorem State.numfaultIf_ctrl (s : State) (b : Bool) : (s.numfaultIf b).ctrl = s.ctrl := by cases b <;> rfl
@[simp] theorem State.numfaultIf_busy (s : State) (b : Bool) : (s.numfaultIf b).busy = s.busy := by cases b <;> rfl
@[simp] theorem State.numfaultIf_pendingCmd (s : State) (b : Bool) : (s.numfaultIf b).pendingCmd = s.pendingCmd := by cases b <;> rfl
@[simp] theorem State.numfaultIf_done (s : State) (b : Bool) : (s.numfaultIf b).done = s.done := by cases b <;> rfl
@[simp] theorem State.numfaultIf_onsetEvt (s : State) (b : Bool) : (s.numfaultIf b).onsetEvt = s.onsetEvt := by cases b <;> rfl
@[simp] theorem State.numfaultIf_err (s : State) (b : Bool) : (s.numfaultIf b).err = if b then s.err ||| Err.numeric.mask else s.err := by
  cases b <;> rfl
@[simp] theorem State.numfaultIf_lastCode (s : State) (b : Bool) : (s.numfaultIf b).lastCode = if b then Err.numeric.code else s.lastCode := by
  cases b <;> rfl
@[simp] theorem State.numfaultIf_cfgFailAddr (s : State) (b : Bool) : (s.numfaultIf b).cfgFailAddr = s.cfgFailAddr := by cases b <;> rfl
@[simp] theorem State.numfaultIf_irqEn (s : State) (b : Bool) : (s.numfaultIf b).irqEn = s.irqEn := by cases b <;> rfl
@[simp] theorem State.numfaultIf_dcOffset (s : State) (b : Bool) : (s.numfaultIf b).dcOffset = s.dcOffset := by cases b <;> rfl
@[simp] theorem State.numfaultIf_novInject (s : State) (b : Bool) : (s.numfaultIf b).novInject = s.novInject := by cases b <;> rfl
@[simp] theorem State.numfaultIf_hopCount (s : State) (b : Bool) : (s.numfaultIf b).hopCount = s.hopCount := by cases b <;> rfl
@[simp] theorem State.numfaultIf_droppedCount (s : State) (b : Bool) : (s.numfaultIf b).droppedCount = s.droppedCount := by cases b <;> rfl
@[simp] theorem State.numfaultIf_numErrCount (s : State) (b : Bool) : (s.numfaultIf b).numErrCount = if b then satIncr s.numErrCount else s.numErrCount := by
  cases b <;> rfl
@[simp] theorem State.numfaultIf_lastCycles (s : State) (b : Bool) : (s.numfaultIf b).lastCycles = s.lastCycles := by cases b <;> rfl
@[simp] theorem State.numfaultIf_cfg (s : State) (b : Bool) : (s.numfaultIf b).cfg = s.cfg := by cases b <;> rfl
@[simp] theorem State.numfaultIf_dyn (s : State) (b : Bool) : (s.numfaultIf b).dyn = s.dyn := by cases b <;> rfl
@[simp] theorem State.numfaultIf_res (s : State) (b : Bool) : (s.numfaultIf b).res = s.res := by cases b <;> rfl
@[simp] theorem State.numfaultIf_port (s : State) (b : Bool) : (s.numfaultIf b).port = s.port := by cases b <;> rfl
@[simp] theorem State.numfaultIf_turns (s : State) (b : Bool) : (s.numfaultIf b).turns = s.turns := by cases b <;> rfl
@[simp] theorem State.numfaultIf_draws (s : State) (b : Bool) : (s.numfaultIf b).draws = s.draws := by cases b <;> rfl
@[simp] theorem State.numfaultIf_readData (s : State) (b : Bool) : (s.numfaultIf b).readData = s.readData := by cases b <;> rfl

/-! ## numfaults: n numeric faults, each counted once (60_exceptions.md R177) -/

@[simp] theorem State.numfaults_zero (s : State) : s.numfaults 0 = s := rfl

theorem State.numfaults_succ (s : State) (n : Nat) : s.numfaults (n + 1) = s.numfault.numfaults n := rfl

@[simp] theorem State.numfaults_ctrl (s : State) (n : Nat) : (s.numfaults n).ctrl = s.ctrl := by
  induction n generalizing s with
  | zero => rfl
  | succ n ih => rw [State.numfaults_succ, ih, State.numfault_ctrl]
@[simp] theorem State.numfaults_busy (s : State) (n : Nat) : (s.numfaults n).busy = s.busy := by
  induction n generalizing s with
  | zero => rfl
  | succ n ih => rw [State.numfaults_succ, ih, State.numfault_busy]
@[simp] theorem State.numfaults_pendingCmd (s : State) (n : Nat) : (s.numfaults n).pendingCmd = s.pendingCmd := by
  induction n generalizing s with
  | zero => rfl
  | succ n ih => rw [State.numfaults_succ, ih, State.numfault_pendingCmd]
@[simp] theorem State.numfaults_done (s : State) (n : Nat) : (s.numfaults n).done = s.done := by
  induction n generalizing s with
  | zero => rfl
  | succ n ih => rw [State.numfaults_succ, ih, State.numfault_done]
@[simp] theorem State.numfaults_onsetEvt (s : State) (n : Nat) : (s.numfaults n).onsetEvt = s.onsetEvt := by
  induction n generalizing s with
  | zero => rfl
  | succ n ih => rw [State.numfaults_succ, ih, State.numfault_onsetEvt]
@[simp] theorem State.numfaults_cfgFailAddr (s : State) (n : Nat) : (s.numfaults n).cfgFailAddr = s.cfgFailAddr := by
  induction n generalizing s with
  | zero => rfl
  | succ n ih => rw [State.numfaults_succ, ih, State.numfault_cfgFailAddr]
@[simp] theorem State.numfaults_irqEn (s : State) (n : Nat) : (s.numfaults n).irqEn = s.irqEn := by
  induction n generalizing s with
  | zero => rfl
  | succ n ih => rw [State.numfaults_succ, ih, State.numfault_irqEn]
@[simp] theorem State.numfaults_dcOffset (s : State) (n : Nat) : (s.numfaults n).dcOffset = s.dcOffset := by
  induction n generalizing s with
  | zero => rfl
  | succ n ih => rw [State.numfaults_succ, ih, State.numfault_dcOffset]
@[simp] theorem State.numfaults_novInject (s : State) (n : Nat) : (s.numfaults n).novInject = s.novInject := by
  induction n generalizing s with
  | zero => rfl
  | succ n ih => rw [State.numfaults_succ, ih, State.numfault_novInject]
@[simp] theorem State.numfaults_hopCount (s : State) (n : Nat) : (s.numfaults n).hopCount = s.hopCount := by
  induction n generalizing s with
  | zero => rfl
  | succ n ih => rw [State.numfaults_succ, ih, State.numfault_hopCount]
@[simp] theorem State.numfaults_droppedCount (s : State) (n : Nat) : (s.numfaults n).droppedCount = s.droppedCount := by
  induction n generalizing s with
  | zero => rfl
  | succ n ih => rw [State.numfaults_succ, ih, State.numfault_droppedCount]
@[simp] theorem State.numfaults_lastCycles (s : State) (n : Nat) : (s.numfaults n).lastCycles = s.lastCycles := by
  induction n generalizing s with
  | zero => rfl
  | succ n ih => rw [State.numfaults_succ, ih, State.numfault_lastCycles]
@[simp] theorem State.numfaults_cfg (s : State) (n : Nat) : (s.numfaults n).cfg = s.cfg := by
  induction n generalizing s with
  | zero => rfl
  | succ n ih => rw [State.numfaults_succ, ih, State.numfault_cfg]
@[simp] theorem State.numfaults_dyn (s : State) (n : Nat) : (s.numfaults n).dyn = s.dyn := by
  induction n generalizing s with
  | zero => rfl
  | succ n ih => rw [State.numfaults_succ, ih, State.numfault_dyn]
@[simp] theorem State.numfaults_res (s : State) (n : Nat) : (s.numfaults n).res = s.res := by
  induction n generalizing s with
  | zero => rfl
  | succ n ih => rw [State.numfaults_succ, ih, State.numfault_res]
@[simp] theorem State.numfaults_port (s : State) (n : Nat) : (s.numfaults n).port = s.port := by
  induction n generalizing s with
  | zero => rfl
  | succ n ih => rw [State.numfaults_succ, ih, State.numfault_port]
@[simp] theorem State.numfaults_turns (s : State) (n : Nat) : (s.numfaults n).turns = s.turns := by
  induction n generalizing s with
  | zero => rfl
  | succ n ih => rw [State.numfaults_succ, ih, State.numfault_turns]
@[simp] theorem State.numfaults_draws (s : State) (n : Nat) : (s.numfaults n).draws = s.draws := by
  induction n generalizing s with
  | zero => rfl
  | succ n ih => rw [State.numfaults_succ, ih, State.numfault_draws]
@[simp] theorem State.numfaults_readData (s : State) (n : Nat) : (s.numfaults n).readData = s.readData := by
  induction n generalizing s with
  | zero => rfl
  | succ n ih => rw [State.numfaults_succ, ih, State.numfault_readData]

@[simp] theorem State.numfaults_err (s : State) (n : Nat) :
    (s.numfaults n).err = if n = 0 then s.err else s.err ||| Err.numeric.mask := by
  induction n generalizing s with
  | zero => rfl
  | succ n ih =>
    rw [State.numfaults_succ, ih, State.numfault_err]
    split <;> simp [BitVec.or_assoc]

@[simp] theorem State.numfaults_lastCode (s : State) (n : Nat) :
    (s.numfaults n).lastCode = if n = 0 then s.lastCode else Err.numeric.code := by
  induction n generalizing s with
  | zero => rfl
  | succ n ih =>
    rw [State.numfaults_succ, ih, State.numfault_lastCode]
    split <;> simp

theorem satIncr_toNat (w : Word) : (satIncr w).toNat = min (w.toNat + 1) 0xFFFFFFFF := by
  unfold satIncr
  split
  · next h => subst h; rfl
  · next h =>
    have : w.toNat ≠ 0xFFFFFFFF := fun hw => h (BitVec.eq_of_toNat_eq (by simpa using hw))
    have := w.isLt
    rw [BitVec.toNat_add]
    simp only [BitVec.toNat_ofNat]
    omega

theorem State.numfaults_numErrCount_toNat (s : State) (n : Nat) :
    (s.numfaults n).numErrCount.toNat = min (s.numErrCount.toNat + n) 0xFFFFFFFF := by
  induction n generalizing s with
  | zero => have := s.numErrCount.isLt; simp only [State.numfaults_zero]; omega
  | succ n ih =>
    rw [State.numfaults_succ, ih, State.numfault_numErrCount, satIncr_toNat]
    omega

/-! ## complete (40_sequencer.md R121) -/

@[simp] theorem State.complete_lastCycles (s : State) : (s.complete).lastCycles = Config.cyclesDraw s.draws := rfl
@[simp] theorem State.complete_draws (s : State) : (s.complete).draws = s.draws + 1 := rfl
@[simp] theorem State.complete_busy (s : State) : (s.complete).busy = false := rfl
@[simp] theorem State.complete_done (s : State) : (s.complete).done = true := rfl
@[simp] theorem State.complete_ctrl (s : State) : (s.complete).ctrl = s.ctrl := rfl
@[simp] theorem State.complete_pendingCmd (s : State) : (s.complete).pendingCmd = s.pendingCmd := rfl
@[simp] theorem State.complete_onsetEvt (s : State) : (s.complete).onsetEvt = s.onsetEvt := rfl
@[simp] theorem State.complete_err (s : State) : (s.complete).err = s.err := rfl
@[simp] theorem State.complete_lastCode (s : State) : (s.complete).lastCode = s.lastCode := rfl
@[simp] theorem State.complete_cfgFailAddr (s : State) : (s.complete).cfgFailAddr = s.cfgFailAddr := rfl
@[simp] theorem State.complete_irqEn (s : State) : (s.complete).irqEn = s.irqEn := rfl
@[simp] theorem State.complete_dcOffset (s : State) : (s.complete).dcOffset = s.dcOffset := rfl
@[simp] theorem State.complete_novInject (s : State) : (s.complete).novInject = s.novInject := rfl
@[simp] theorem State.complete_hopCount (s : State) : (s.complete).hopCount = s.hopCount := rfl
@[simp] theorem State.complete_droppedCount (s : State) : (s.complete).droppedCount = s.droppedCount := rfl
@[simp] theorem State.complete_numErrCount (s : State) : (s.complete).numErrCount = s.numErrCount := rfl
@[simp] theorem State.complete_cfg (s : State) : (s.complete).cfg = s.cfg := rfl
@[simp] theorem State.complete_dyn (s : State) : (s.complete).dyn = s.dyn := rfl
@[simp] theorem State.complete_res (s : State) : (s.complete).res = s.res := rfl
@[simp] theorem State.complete_port (s : State) : (s.complete).port = s.port := rfl
@[simp] theorem State.complete_turns (s : State) : (s.complete).turns = s.turns := rfl
@[simp] theorem State.complete_readData (s : State) : (s.complete).readData = s.readData := rfl

/-! ## cleared (40_sequencer.md R123) -/

@[simp] theorem State.cleared_dyn (s : State) : (s.cleared).dyn = Dyn.reset := rfl
@[simp] theorem State.cleared_ctrl (s : State) : (s.cleared).ctrl = s.ctrl := rfl
@[simp] theorem State.cleared_busy (s : State) : (s.cleared).busy = s.busy := rfl
@[simp] theorem State.cleared_pendingCmd (s : State) : (s.cleared).pendingCmd = s.pendingCmd := rfl
@[simp] theorem State.cleared_done (s : State) : (s.cleared).done = s.done := rfl
@[simp] theorem State.cleared_onsetEvt (s : State) : (s.cleared).onsetEvt = s.onsetEvt := rfl
@[simp] theorem State.cleared_err (s : State) : (s.cleared).err = s.err := rfl
@[simp] theorem State.cleared_lastCode (s : State) : (s.cleared).lastCode = s.lastCode := rfl
@[simp] theorem State.cleared_cfgFailAddr (s : State) : (s.cleared).cfgFailAddr = s.cfgFailAddr := rfl
@[simp] theorem State.cleared_irqEn (s : State) : (s.cleared).irqEn = s.irqEn := rfl
@[simp] theorem State.cleared_dcOffset (s : State) : (s.cleared).dcOffset = s.dcOffset := rfl
@[simp] theorem State.cleared_novInject (s : State) : (s.cleared).novInject = s.novInject := rfl
@[simp] theorem State.cleared_hopCount (s : State) : (s.cleared).hopCount = s.hopCount := rfl
@[simp] theorem State.cleared_droppedCount (s : State) : (s.cleared).droppedCount = s.droppedCount := rfl
@[simp] theorem State.cleared_numErrCount (s : State) : (s.cleared).numErrCount = s.numErrCount := rfl
@[simp] theorem State.cleared_lastCycles (s : State) : (s.cleared).lastCycles = s.lastCycles := rfl
@[simp] theorem State.cleared_cfg (s : State) : (s.cleared).cfg = s.cfg := rfl
@[simp] theorem State.cleared_res (s : State) : (s.cleared).res = s.res := rfl
@[simp] theorem State.cleared_port (s : State) : (s.cleared).port = s.port := rfl
@[simp] theorem State.cleared_turns (s : State) : (s.cleared).turns = s.turns := rfl
@[simp] theorem State.cleared_draws (s : State) : (s.cleared).draws = s.draws := rfl
@[simp] theorem State.cleared_readData (s : State) : (s.cleared).readData = s.readData := rfl

/-! ## softReset (40_sequencer.md R124) -/

@[simp] theorem State.softReset_ctrl (s : State) : (s.softReset).ctrl = State.reset.ctrl := rfl
@[simp] theorem State.softReset_busy (s : State) : (s.softReset).busy = State.reset.busy := rfl
@[simp] theorem State.softReset_pendingCmd (s : State) : (s.softReset).pendingCmd = State.reset.pendingCmd := rfl
@[simp] theorem State.softReset_done (s : State) : (s.softReset).done = State.reset.done := rfl
@[simp] theorem State.softReset_onsetEvt (s : State) : (s.softReset).onsetEvt = State.reset.onsetEvt := rfl
@[simp] theorem State.softReset_err (s : State) : (s.softReset).err = State.reset.err := rfl
@[simp] theorem State.softReset_lastCode (s : State) : (s.softReset).lastCode = State.reset.lastCode := rfl
@[simp] theorem State.softReset_cfgFailAddr (s : State) : (s.softReset).cfgFailAddr = State.reset.cfgFailAddr := rfl
@[simp] theorem State.softReset_irqEn (s : State) : (s.softReset).irqEn = State.reset.irqEn := rfl
@[simp] theorem State.softReset_dcOffset (s : State) : (s.softReset).dcOffset = State.reset.dcOffset := rfl
@[simp] theorem State.softReset_novInject (s : State) : (s.softReset).novInject = State.reset.novInject := rfl
@[simp] theorem State.softReset_hopCount (s : State) : (s.softReset).hopCount = State.reset.hopCount := rfl
@[simp] theorem State.softReset_droppedCount (s : State) : (s.softReset).droppedCount = State.reset.droppedCount := rfl
@[simp] theorem State.softReset_numErrCount (s : State) : (s.softReset).numErrCount = State.reset.numErrCount := rfl
@[simp] theorem State.softReset_lastCycles (s : State) : (s.softReset).lastCycles = State.reset.lastCycles := rfl
@[simp] theorem State.softReset_cfg (s : State) : (s.softReset).cfg = State.reset.cfg := rfl
@[simp] theorem State.softReset_dyn (s : State) : (s.softReset).dyn = State.reset.dyn := rfl
@[simp] theorem State.softReset_res (s : State) : (s.softReset).res = State.reset.res := rfl
@[simp] theorem State.softReset_port (s : State) : (s.softReset).port = s.port := rfl
@[simp] theorem State.softReset_turns (s : State) : (s.softReset).turns = s.turns := rfl
@[simp] theorem State.softReset_draws (s : State) : (s.softReset).draws = s.draws := rfl
@[simp] theorem State.softReset_readData (s : State) : (s.softReset).readData = s.readData := rfl

/-! ## ackStatus and ackErr (40_sequencer.md R131) -/

@[simp] theorem State.ackStatus_done (s : State) (v : Word) : (s.ackStatus v).done = (s.done && !v.getLsbD 1) := rfl
@[simp] theorem State.ackStatus_onsetEvt (s : State) (v : Word) : (s.ackStatus v).onsetEvt = (s.onsetEvt && !v.getLsbD 2) := rfl
@[simp] theorem State.ackStatus_ctrl (s : State) (v : Word) : (s.ackStatus v).ctrl = s.ctrl := rfl
@[simp] theorem State.ackStatus_busy (s : State) (v : Word) : (s.ackStatus v).busy = s.busy := rfl
@[simp] theorem State.ackStatus_pendingCmd (s : State) (v : Word) : (s.ackStatus v).pendingCmd = s.pendingCmd := rfl
@[simp] theorem State.ackStatus_err (s : State) (v : Word) : (s.ackStatus v).err = s.err := rfl
@[simp] theorem State.ackStatus_lastCode (s : State) (v : Word) : (s.ackStatus v).lastCode = s.lastCode := rfl
@[simp] theorem State.ackStatus_cfgFailAddr (s : State) (v : Word) : (s.ackStatus v).cfgFailAddr = s.cfgFailAddr := rfl
@[simp] theorem State.ackStatus_irqEn (s : State) (v : Word) : (s.ackStatus v).irqEn = s.irqEn := rfl
@[simp] theorem State.ackStatus_dcOffset (s : State) (v : Word) : (s.ackStatus v).dcOffset = s.dcOffset := rfl
@[simp] theorem State.ackStatus_novInject (s : State) (v : Word) : (s.ackStatus v).novInject = s.novInject := rfl
@[simp] theorem State.ackStatus_hopCount (s : State) (v : Word) : (s.ackStatus v).hopCount = s.hopCount := rfl
@[simp] theorem State.ackStatus_droppedCount (s : State) (v : Word) : (s.ackStatus v).droppedCount = s.droppedCount := rfl
@[simp] theorem State.ackStatus_numErrCount (s : State) (v : Word) : (s.ackStatus v).numErrCount = s.numErrCount := rfl
@[simp] theorem State.ackStatus_lastCycles (s : State) (v : Word) : (s.ackStatus v).lastCycles = s.lastCycles := rfl
@[simp] theorem State.ackStatus_cfg (s : State) (v : Word) : (s.ackStatus v).cfg = s.cfg := rfl
@[simp] theorem State.ackStatus_dyn (s : State) (v : Word) : (s.ackStatus v).dyn = s.dyn := rfl
@[simp] theorem State.ackStatus_res (s : State) (v : Word) : (s.ackStatus v).res = s.res := rfl
@[simp] theorem State.ackStatus_port (s : State) (v : Word) : (s.ackStatus v).port = s.port := rfl
@[simp] theorem State.ackStatus_turns (s : State) (v : Word) : (s.ackStatus v).turns = s.turns := rfl
@[simp] theorem State.ackStatus_draws (s : State) (v : Word) : (s.ackStatus v).draws = s.draws := rfl
@[simp] theorem State.ackStatus_readData (s : State) (v : Word) : (s.ackStatus v).readData = s.readData := rfl

@[simp] theorem State.ackErr_err (s : State) (v : Word) : (s.ackErr v).err = s.err &&& ~~~(v.extractLsb' 0 11) := rfl
@[simp] theorem State.ackErr_ctrl (s : State) (v : Word) : (s.ackErr v).ctrl = s.ctrl := rfl
@[simp] theorem State.ackErr_busy (s : State) (v : Word) : (s.ackErr v).busy = s.busy := rfl
@[simp] theorem State.ackErr_pendingCmd (s : State) (v : Word) : (s.ackErr v).pendingCmd = s.pendingCmd := rfl
@[simp] theorem State.ackErr_done (s : State) (v : Word) : (s.ackErr v).done = s.done := rfl
@[simp] theorem State.ackErr_onsetEvt (s : State) (v : Word) : (s.ackErr v).onsetEvt = s.onsetEvt := rfl
@[simp] theorem State.ackErr_lastCode (s : State) (v : Word) : (s.ackErr v).lastCode = s.lastCode := rfl
@[simp] theorem State.ackErr_cfgFailAddr (s : State) (v : Word) : (s.ackErr v).cfgFailAddr = s.cfgFailAddr := rfl
@[simp] theorem State.ackErr_irqEn (s : State) (v : Word) : (s.ackErr v).irqEn = s.irqEn := rfl
@[simp] theorem State.ackErr_dcOffset (s : State) (v : Word) : (s.ackErr v).dcOffset = s.dcOffset := rfl
@[simp] theorem State.ackErr_novInject (s : State) (v : Word) : (s.ackErr v).novInject = s.novInject := rfl
@[simp] theorem State.ackErr_hopCount (s : State) (v : Word) : (s.ackErr v).hopCount = s.hopCount := rfl
@[simp] theorem State.ackErr_droppedCount (s : State) (v : Word) : (s.ackErr v).droppedCount = s.droppedCount := rfl
@[simp] theorem State.ackErr_numErrCount (s : State) (v : Word) : (s.ackErr v).numErrCount = s.numErrCount := rfl
@[simp] theorem State.ackErr_lastCycles (s : State) (v : Word) : (s.ackErr v).lastCycles = s.lastCycles := rfl
@[simp] theorem State.ackErr_cfg (s : State) (v : Word) : (s.ackErr v).cfg = s.cfg := rfl
@[simp] theorem State.ackErr_dyn (s : State) (v : Word) : (s.ackErr v).dyn = s.dyn := rfl
@[simp] theorem State.ackErr_res (s : State) (v : Word) : (s.ackErr v).res = s.res := rfl
@[simp] theorem State.ackErr_port (s : State) (v : Word) : (s.ackErr v).port = s.port := rfl
@[simp] theorem State.ackErr_turns (s : State) (v : Word) : (s.ackErr v).turns = s.turns := rfl
@[simp] theorem State.ackErr_draws (s : State) (v : Word) : (s.ackErr v).draws = s.draws := rfl
@[simp] theorem State.ackErr_readData (s : State) (v : Word) : (s.ackErr v).readData = s.readData := rfl

/-! ## accept (40_sequencer.md R120) -/

@[simp] theorem State.accept_ctrl (s : State) (v : Word) : (s.accept v).ctrl = s.ctrl := by
  unfold State.accept; (repeat' split) <;> rfl
@[simp] theorem State.accept_onsetEvt (s : State) (v : Word) : (s.accept v).onsetEvt = s.onsetEvt := by
  unfold State.accept; (repeat' split) <;> rfl
@[simp] theorem State.accept_cfgFailAddr (s : State) (v : Word) : (s.accept v).cfgFailAddr = s.cfgFailAddr := by
  unfold State.accept; (repeat' split) <;> rfl
@[simp] theorem State.accept_irqEn (s : State) (v : Word) : (s.accept v).irqEn = s.irqEn := by
  unfold State.accept; (repeat' split) <;> rfl
@[simp] theorem State.accept_dcOffset (s : State) (v : Word) : (s.accept v).dcOffset = s.dcOffset := by
  unfold State.accept; (repeat' split) <;> rfl
@[simp] theorem State.accept_novInject (s : State) (v : Word) : (s.accept v).novInject = s.novInject := by
  unfold State.accept; (repeat' split) <;> rfl
@[simp] theorem State.accept_hopCount (s : State) (v : Word) : (s.accept v).hopCount = s.hopCount := by
  unfold State.accept; (repeat' split) <;> rfl
@[simp] theorem State.accept_droppedCount (s : State) (v : Word) : (s.accept v).droppedCount = s.droppedCount := by
  unfold State.accept; (repeat' split) <;> rfl
@[simp] theorem State.accept_numErrCount (s : State) (v : Word) : (s.accept v).numErrCount = s.numErrCount := by
  unfold State.accept; (repeat' split) <;> rfl
@[simp] theorem State.accept_lastCycles (s : State) (v : Word) : (s.accept v).lastCycles = s.lastCycles := by
  unfold State.accept; (repeat' split) <;> rfl
@[simp] theorem State.accept_cfg (s : State) (v : Word) : (s.accept v).cfg = s.cfg := by
  unfold State.accept; (repeat' split) <;> rfl
@[simp] theorem State.accept_dyn (s : State) (v : Word) : (s.accept v).dyn = s.dyn := by
  unfold State.accept; (repeat' split) <;> rfl
@[simp] theorem State.accept_res (s : State) (v : Word) : (s.accept v).res = s.res := by
  unfold State.accept; (repeat' split) <;> rfl
@[simp] theorem State.accept_port (s : State) (v : Word) : (s.accept v).port = s.port := by
  unfold State.accept; (repeat' split) <;> rfl
@[simp] theorem State.accept_turns (s : State) (v : Word) : (s.accept v).turns = s.turns := by
  unfold State.accept; (repeat' split) <;> rfl
@[simp] theorem State.accept_draws (s : State) (v : Word) : (s.accept v).draws = s.draws := by
  unfold State.accept; (repeat' split) <;> rfl
@[simp] theorem State.accept_readData (s : State) (v : Word) : (s.accept v).readData = s.readData := by
  unfold State.accept; (repeat' split) <;> rfl

/-! ## stageOne (41_capture.md R135) -/

@[simp] theorem State.stageOne_ctrl (s : State) (h : BitVec 16) : (s.stageOne h).ctrl = s.ctrl := by
  unfold State.stageOne; split <;> rfl
@[simp] theorem State.stageOne_busy (s : State) (h : BitVec 16) : (s.stageOne h).busy = s.busy := by
  unfold State.stageOne; split <;> rfl
@[simp] theorem State.stageOne_pendingCmd (s : State) (h : BitVec 16) : (s.stageOne h).pendingCmd = s.pendingCmd := by
  unfold State.stageOne; split <;> rfl
@[simp] theorem State.stageOne_done (s : State) (h : BitVec 16) : (s.stageOne h).done = s.done := by
  unfold State.stageOne; split <;> rfl
@[simp] theorem State.stageOne_onsetEvt (s : State) (h : BitVec 16) : (s.stageOne h).onsetEvt = s.onsetEvt := by
  unfold State.stageOne; split <;> rfl
@[simp] theorem State.stageOne_cfgFailAddr (s : State) (h : BitVec 16) : (s.stageOne h).cfgFailAddr = s.cfgFailAddr := by
  unfold State.stageOne; split <;> rfl
@[simp] theorem State.stageOne_irqEn (s : State) (h : BitVec 16) : (s.stageOne h).irqEn = s.irqEn := by
  unfold State.stageOne; split <;> rfl
@[simp] theorem State.stageOne_dcOffset (s : State) (h : BitVec 16) : (s.stageOne h).dcOffset = s.dcOffset := by
  unfold State.stageOne; split <;> rfl
@[simp] theorem State.stageOne_novInject (s : State) (h : BitVec 16) : (s.stageOne h).novInject = s.novInject := by
  unfold State.stageOne; split <;> rfl
@[simp] theorem State.stageOne_hopCount (s : State) (h : BitVec 16) : (s.stageOne h).hopCount = s.hopCount := by
  unfold State.stageOne; split <;> rfl
@[simp] theorem State.stageOne_droppedCount (s : State) (h : BitVec 16) : (s.stageOne h).droppedCount = s.droppedCount := by
  unfold State.stageOne; split <;> rfl
@[simp] theorem State.stageOne_numErrCount (s : State) (h : BitVec 16) : (s.stageOne h).numErrCount = s.numErrCount := by
  unfold State.stageOne; split <;> rfl
@[simp] theorem State.stageOne_lastCycles (s : State) (h : BitVec 16) : (s.stageOne h).lastCycles = s.lastCycles := by
  unfold State.stageOne; split <;> rfl
@[simp] theorem State.stageOne_cfg (s : State) (h : BitVec 16) : (s.stageOne h).cfg = s.cfg := by
  unfold State.stageOne; split <;> rfl
@[simp] theorem State.stageOne_res (s : State) (h : BitVec 16) : (s.stageOne h).res = s.res := by
  unfold State.stageOne; split <;> rfl
@[simp] theorem State.stageOne_port (s : State) (h : BitVec 16) : (s.stageOne h).port = s.port := by
  unfold State.stageOne; split <;> rfl
@[simp] theorem State.stageOne_turns (s : State) (h : BitVec 16) : (s.stageOne h).turns = s.turns := by
  unfold State.stageOne; split <;> rfl
@[simp] theorem State.stageOne_draws (s : State) (h : BitVec 16) : (s.stageOne h).draws = s.draws := by
  unfold State.stageOne; split <;> rfl
@[simp] theorem State.stageOne_readData (s : State) (h : BitVec 16) : (s.stageOne h).readData = s.readData := by
  unfold State.stageOne; split <;> rfl

/-! ## The ENABLE and mode views of CTRL -/

@[simp] theorem State.raiseErr_enabled (s : State) (e : Err) : (s.raiseErr e).enabled = s.enabled := rfl
@[simp] theorem State.complete_enabled (s : State) : s.complete.enabled = s.enabled := rfl
@[simp] theorem State.cleared_enabled (s : State) : s.cleared.enabled = s.enabled := rfl
@[simp] theorem State.raiseErr_modeBits (s : State) (e : Err) : (s.raiseErr e).modeBits = s.modeBits := rfl
@[simp] theorem State.cleared_modeBits (s : State) : s.cleared.modeBits = s.modeBits := rfl

theorem ctrlOf_enable (m : BitVec 4) (b : Bool) : (ctrlOf m b).getLsbD 0 = b := by
  rw [ctrlOf, BitVec.getLsbD_append]
  cases b <;> rfl

@[simp] theorem ctrlOf_getElem_zero (m : BitVec 4) (b : Bool) : (ctrlOf m b)[0] = b := ctrlOf_enable m b

@[simp] theorem ctrlOf_mode (m : BitVec 4) (b : Bool) : (ctrlOf m b).extractLsb' 1 4 = m := by
  apply BitVec.eq_of_getLsbD_eq
  intro i hi
  simp only [ctrlOf, BitVec.getLsbD_extractLsb', BitVec.getLsbD_append]
  have : ¬ (1 + i < 1) := by omega
  simp [this, hi]

end Sys2Proof.Machine
end

