-- ==== Sys2Proof/Laws/Ops.lean ====
section
/-! SUPPORT. What each shared operation can do, said once: accepting a command, an enable attempt, staging, the loop of
PUSH_CHUNK, fetching, and one step. -/

namespace Sys2Proof.Machine

/-! ## Accepting a command (40_sequencer.md R120) -/

/-- Acceptance has four outcomes, told apart by BUSY, the command word and ENABLE. -/
theorem State.accept_cases (s : State) (v : Word) :
    (s.busy = true ∧ s.accept v = s.raiseErr .cmdBusy) ∨
    (s.busy = false ∧ (commandMbz v ≠ 0#24 ∨ 0x09#8 < commandOp v) ∧
      s.accept v = { s.raiseErr .illegalCmd with done := true }) ∨
    (s.busy = false ∧ commandMbz v = 0#24 ∧ commandOp v ≤ 0x09#8 ∧ needsEnable (commandOp v) = true ∧ s.enabled = false ∧
      s.accept v = { s.raiseErr .notEnabled with done := true }) ∨
    (s.busy = false ∧ commandMbz v = 0#24 ∧ commandOp v ≤ 0x09#8 ∧
      (needsEnable (commandOp v) = true → s.enabled = true) ∧
      s.accept v = { s with busy := true, pendingCmd := commandOp v }) := by
  unfold State.accept
  by_cases hb : s.busy = true
  · exact .inl ⟨hb, by rw [if_pos hb]⟩
  · have hb' : s.busy = false := by simpa using hb
    right
    rw [if_neg hb]
    by_cases hl : commandMbz v ≠ 0#24 ∨ 0x09#8 < commandOp v
    · exact .inl ⟨hb', hl, by rw [if_pos hl]⟩
    · right
      rw [if_neg hl]
      obtain ⟨h1, h2⟩ := not_or.mp hl
      have h1' : commandMbz v = 0#24 := not_not.mp h1
      have h2' : commandOp v ≤ 0x09#8 := BitVec.not_lt.mp h2
      by_cases he : (needsEnable (commandOp v) && !s.enabled) = true
      · have he' := he
        simp only [Bool.and_eq_true, Bool.not_eq_true'] at he'
        exact .inl ⟨hb', h1', h2', he'.1, he'.2, by rw [if_pos he]⟩
      · refine .inr ⟨hb', h1', h2', ?_, by rw [if_neg he]⟩
        intro hn
        simpa [hn] using he

/-! ## An enable attempt (40_sequencer.md R127) -/

/-- An enable attempt clears and enables, or records the first failing word. -/
theorem State.tryEnable_cases (s : State) :
    (s.cfg.validate = none ∧
      s.tryEnable = { s.cleared with cfgFailAddr := 0xFFFFFFFF#32, ctrl := ctrlOf s.modeBits true }) ∨
    (∃ w, s.cfg.validate = some w ∧
      s.tryEnable = { s with cfgFailAddr := natWord w.offset }.raiseErr .cfgInvalid) := by
  unfold State.tryEnable
  cases h : s.cfg.validate with
  | none => exact .inl ⟨rfl, rfl⟩
  | some w => exact .inr ⟨w, rfl, rfl⟩

/-! ## The loop of PUSH_CHUNK (41_capture.md R138) -/

/-- After any number of rounds only HIST, HIST_WPTR and the count of drawn values have changed, and the cursor has advanced
by the number of rounds. -/
theorem State.pushSamples_frame (l : List (Fin 128)) (s : State) :
    (l.foldl State.pushSample s).dyn.histWptr.val = (s.dyn.histWptr.val + l.length) % 2048 ∧
    (l.foldl State.pushSample s).draws = s.draws + l.length ∧
    l.foldl State.pushSample s =
      { s with
        draws := (l.foldl State.pushSample s).draws
        dyn := { s.dyn with hist := (l.foldl State.pushSample s).dyn.hist
                            histWptr := (l.foldl State.pushSample s).dyn.histWptr } } := by
  induction l generalizing s with
  | nil =>
    refine ⟨?_, rfl, rfl⟩
    exact (Nat.mod_eq_of_lt s.dyn.histWptr.isLt).symm
  | cons i l ih =>
    obtain ⟨h1, h2, h3⟩ := ih (s.pushSample i)
    have hw : (s.pushSample i).dyn.histWptr.val = (s.dyn.histWptr.val + 1) % 2048 := by
      show (s.dyn.histWptr + 1).val = _
      rw [Fin.val_add]
      rfl
    have hd : (s.pushSample i).draws = s.draws + 1 := rfl
    refine ⟨?_, ?_, ?_⟩
    · rw [List.foldl_cons, h1, hw, List.length_cons]; omega
    · rw [List.foldl_cons, h2, hd, List.length_cons]; omega
    · rw [List.foldl_cons, h3]
      rfl

/-! ## Fetching and stepping (20_memory.md R104) -/

/-- A fetch is idle only with no command running and nothing to issue; the engine moves only while a command runs; and the
state an instruction runs in differs from the fetched one in the host's list and the order of moves only. -/
theorem State.fetch_cases (s : State) :
    (s.fetch = .idle ∧ s.busy = false ∧ s.port = []) ∨
    (∃ ts, s.fetch = .engine s.pendingBytes { s with turns := ts } ∧ s.busy = true) ∨
    (∃ r rest ts, s.fetch = .host (accessBytes r) { s with port := rest, turns := ts } ∧ s.port = r :: rest) := by
  obtain ⟨_, busy, _, _, _, _, _, _, _, _, _, _, _, _, _, _, _, _, port, turns, _, _⟩ := s
  cases busy with
  | false =>
    cases port with
    | nil => exact .inl ⟨rfl, rfl, rfl⟩
    | cons r rest => exact .inr (.inr ⟨r, rest, turns, rfl, rfl⟩)
  | true =>
    cases port with
    | nil => exact .inr (.inl ⟨turns, rfl, rfl⟩)
    | cons r rest =>
      cases turns with
      | nil => exact .inr (.inl ⟨[], rfl, rfl⟩)
      | cons a ts =>
        cases a with
        | engine => exact .inr (.inl ⟨ts, rfl, rfl⟩)
        | host => exact .inr (.inr ⟨r, rest, ts, rfl, rfl⟩)

/-- Every way a step answers a next state. -/
theorem step_cases {s t : State} (h : step s = .next t) :
    (t = s ∧ s.busy = false ∧ s.port = []) ∨
    (∃ ts i, s.busy = true ∧ decode s.pendingBytes = .ok i ∧ exec i { s with turns := ts } = .next t) ∨
    (∃ r rest ts i, s.port = r :: rest ∧ decode (accessBytes r) = .ok i ∧
      exec i { s with port := rest, turns := ts } = .next t) := by
  unfold step at h
  rcases s.fetch_cases with ⟨hf, h1, h2⟩ | ⟨ts, hf, hb⟩ | ⟨r, rest, ts, hf, hp⟩
  · rw [hf] at h
    cases h
    exact .inl ⟨rfl, h1, h2⟩
  · rw [hf] at h
    simp only at h
    split at h
    · rename_i i hi
      exact .inr (.inl ⟨ts, i, hb, hi, h⟩)
    · cases h
  · rw [hf] at h
    simp only at h
    split at h
    · rename_i i hi
      exact .inr (.inr ⟨r, rest, ts, i, hp, hi, h⟩)
    · cases h

/-- The command word `zext_32(OP)` of each opcode below `0x0A` decodes to the opcode map's command (30_encoding.md R111,
R112). -/
theorem decode_opcode : ∀ op : Fin 10,
    (decodeOp op.val).any (fun i => decide (decode (commandBytes (BitVec.ofNat 32 op.val)) = .ok i)) = true := by
  decide

/-- A legal opcode in the latch decodes to its command (30_encoding.md R111, R112). -/
theorem decode_pendingBytes {s : State} (h : s.pendingCmd ≤ 0x09#8) :
    ∃ i, decode s.pendingBytes = .ok i ∧ decodeOp s.pendingCmd.toNat = some i := by
  obtain ⟨i, hop, hdec⟩ := (Option.any_eq_true ..).mp (decode_opcode ⟨s.pendingCmd.toNat, Nat.lt_succ_of_le h⟩)
  refine ⟨i, ?_, hop⟩
  rw [State.pendingBytes, ← BitVec.ofNat_toNat]
  exact of_decide_eq_true hdec

end Sys2Proof.Machine
end

