-- ==== Sys2Proof/Laws/PerInstr.lean ====
section
/-! SUPPORT. What holds of every instruction as syntax, one lemma per constructor: a command is encoded in four bytes and a
bus access in eight (30_encoding.md R110; the eight bytes are the model's, notes/assumptions/3.md). -/

namespace Sys2Proof.Laws.EncodeLength

/-- The two formats. -/
def isCommand : Instr → Bool
  | .nop | .pushChunk | .runGoertzel | .runOnset | .runTempo | .commit | .hop | .skipHop | .clearState | .softReset => true
  | .wrCtrl _ | .wrCmd _ | .wrStatus _ | .wrErr _ | .wrIrqEn _ | .wrSampleIn _ | .wrSamplePair _ => false
  | .wrRuntime _ _ | .wrCfg _ _ | .wrOther _ _ _ | .rd _ _ => false

/-- The length of an instruction's encoding is that of its format. -/
def Statement (i : Instr) : Prop := (encode i).length = if isCommand i then 4 else 8

theorem nop : Statement .nop := rfl
theorem pushChunk : Statement .pushChunk := rfl
theorem runGoertzel : Statement .runGoertzel := rfl
theorem runOnset : Statement .runOnset := rfl
theorem runTempo : Statement .runTempo := rfl
theorem commit : Statement .commit := rfl
theorem hop : Statement .hop := rfl
theorem skipHop : Statement .skipHop := rfl
theorem clearState : Statement .clearState := rfl
theorem softReset : Statement .softReset := rfl
theorem wrCtrl (v : Word) : Statement (.wrCtrl v) := rfl
theorem wrCmd (v : Word) : Statement (.wrCmd v) := rfl
theorem wrStatus (v : Word) : Statement (.wrStatus v) := rfl
theorem wrErr (v : Word) : Statement (.wrErr v) := rfl
theorem wrIrqEn (v : Word) : Statement (.wrIrqEn v) := rfl
theorem wrSampleIn (v : Word) : Statement (.wrSampleIn v) := rfl
theorem wrSamplePair (v : Word) : Statement (.wrSamplePair v) := rfl
theorem wrRuntime (off : Offset) (v : Word) : Statement (.wrRuntime off v) := rfl
theorem wrCfg (off : Offset) (v : Word) : Statement (.wrCfg off v) := rfl
theorem wrOther (size : AccessSize) (off : Offset) (v : Word) : Statement (.wrOther size off v) := rfl
theorem rd (size : AccessSize) (off : Offset) : Statement (.rd size off) := rfl

end Sys2Proof.Laws.EncodeLength
end

