-- ==== Sys2Proof/Laws/Stages.lean ====
section
/-! SUPPORT. What each stage of a hop leaves alone: one lemma per field of State and stage (41_capture.md to
45_commit.md). -/

namespace Sys2Proof.Machine

/-! ## pushChunk (41_capture.md R138) -/

@[simp] theorem State.pushChunk_ctrl (s : State) : (s.pushChunk).ctrl = s.ctrl := by
  unfold State.pushChunk; simp only; rw [(State.pushSamples_frame _ s).2.2]
@[simp] theorem State.pushChunk_busy (s : State) : (s.pushChunk).busy = s.busy := by
  unfold State.pushChunk; simp only; rw [(State.pushSamples_frame _ s).2.2]
@[simp] theorem State.pushChunk_pendingCmd (s : State) : (s.pushChunk).pendingCmd = s.pendingCmd := by
  unfold State.pushChunk; simp only; rw [(State.pushSamples_frame _ s).2.2]
@[simp] theorem State.pushChunk_done (s : State) : (s.pushChunk).done = s.done := by
  unfold State.pushChunk; simp only; rw [(State.pushSamples_frame _ s).2.2]
@[simp] theorem State.pushChunk_onsetEvt (s : State) : (s.pushChunk).onsetEvt = s.onsetEvt := by
  unfold State.pushChunk; simp only; rw [(State.pushSamples_frame _ s).2.2]
@[simp] theorem State.pushChunk_cfgFailAddr (s : State) : (s.pushChunk).cfgFailAddr = s.cfgFailAddr := by
  unfold State.pushChunk; simp only; rw [(State.pushSamples_frame _ s).2.2]
@[simp] theorem State.pushChunk_irqEn (s : State) : (s.pushChunk).irqEn = s.irqEn := by
  unfold State.pushChunk; simp only; rw [(State.pushSamples_frame _ s).2.2]
@[simp] theorem State.pushChunk_dcOffset (s : State) : (s.pushChunk).dcOffset = s.dcOffset := by
  unfold State.pushChunk; simp only; rw [(State.pushSamples_frame _ s).2.2]
@[simp] theorem State.pushChunk_novInject (s : State) : (s.pushChunk).novInject = s.novInject := by
  unfold State.pushChunk; simp only; rw [(State.pushSamples_frame _ s).2.2]
@[simp] theorem State.pushChunk_hopCount (s : State) : (s.pushChunk).hopCount = s.hopCount := by
  unfold State.pushChunk; simp only; rw [(State.pushSamples_frame _ s).2.2]
@[simp] theorem State.pushChunk_droppedCount (s : State) : (s.pushChunk).droppedCount = s.droppedCount := by
  unfold State.pushChunk; simp only; rw [(State.pushSamples_frame _ s).2.2]
@[simp] theorem State.pushChunk_lastCycles (s : State) : (s.pushChunk).lastCycles = s.lastCycles := by
  unfold State.pushChunk; simp only; rw [(State.pushSamples_frame _ s).2.2]
@[simp] theorem State.pushChunk_cfg (s : State) : (s.pushChunk).cfg = s.cfg := by
  unfold State.pushChunk; simp only; rw [(State.pushSamples_frame _ s).2.2]
@[simp] theorem State.pushChunk_res (s : State) : (s.pushChunk).res = s.res := by
  unfold State.pushChunk; simp only; rw [(State.pushSamples_frame _ s).2.2]
@[simp] theorem State.pushChunk_port (s : State) : (s.pushChunk).port = s.port := by
  unfold State.pushChunk; simp only; rw [(State.pushSamples_frame _ s).2.2]
@[simp] theorem State.pushChunk_turns (s : State) : (s.pushChunk).turns = s.turns := by
  unfold State.pushChunk; simp only; rw [(State.pushSamples_frame _ s).2.2]
@[simp] theorem State.pushChunk_readData (s : State) : (s.pushChunk).readData = s.readData := by
  unfold State.pushChunk; simp only; rw [(State.pushSamples_frame _ s).2.2]
@[simp] theorem State.pushChunk_err (s : State) : (s.pushChunk).err = s.err := by
  unfold State.pushChunk; simp only; rw [(State.pushSamples_frame _ s).2.2]
@[simp] theorem State.pushChunk_lastCode (s : State) : (s.pushChunk).lastCode = s.lastCode := by
  unfold State.pushChunk; simp only; rw [(State.pushSamples_frame _ s).2.2]
@[simp] theorem State.pushChunk_numErrCount (s : State) : (s.pushChunk).numErrCount = s.numErrCount := by
  unfold State.pushChunk; simp only; rw [(State.pushSamples_frame _ s).2.2]

/-! ## storeLanes (42_goertzel.md R144) -/

@[simp] theorem State.storeLanes_ctrl (s : State) (l : Vector BinLane 64) : (s.storeLanes l).ctrl = s.ctrl := by
  unfold State.storeLanes; simp
@[simp] theorem State.storeLanes_busy (s : State) (l : Vector BinLane 64) : (s.storeLanes l).busy = s.busy := by
  unfold State.storeLanes; simp
@[simp] theorem State.storeLanes_pendingCmd (s : State) (l : Vector BinLane 64) : (s.storeLanes l).pendingCmd = s.pendingCmd := by
  unfold State.storeLanes; simp
@[simp] theorem State.storeLanes_done (s : State) (l : Vector BinLane 64) : (s.storeLanes l).done = s.done := by
  unfold State.storeLanes; simp
@[simp] theorem State.storeLanes_onsetEvt (s : State) (l : Vector BinLane 64) : (s.storeLanes l).onsetEvt = s.onsetEvt := by
  unfold State.storeLanes; simp
@[simp] theorem State.storeLanes_cfgFailAddr (s : State) (l : Vector BinLane 64) : (s.storeLanes l).cfgFailAddr = s.cfgFailAddr := by
  unfold State.storeLanes; simp
@[simp] theorem State.storeLanes_irqEn (s : State) (l : Vector BinLane 64) : (s.storeLanes l).irqEn = s.irqEn := by
  unfold State.storeLanes; simp
@[simp] theorem State.storeLanes_dcOffset (s : State) (l : Vector BinLane 64) : (s.storeLanes l).dcOffset = s.dcOffset := by
  unfold State.storeLanes; simp
@[simp] theorem State.storeLanes_novInject (s : State) (l : Vector BinLane 64) : (s.storeLanes l).novInject = s.novInject := by
  unfold State.storeLanes; simp
@[simp] theorem State.storeLanes_hopCount (s : State) (l : Vector BinLane 64) : (s.storeLanes l).hopCount = s.hopCount := by
  unfold State.storeLanes; simp
@[simp] theorem State.storeLanes_droppedCount (s : State) (l : Vector BinLane 64) : (s.storeLanes l).droppedCount = s.droppedCount := by
  unfold State.storeLanes; simp
@[simp] theorem State.storeLanes_lastCycles (s : State) (l : Vector BinLane 64) : (s.storeLanes l).lastCycles = s.lastCycles := by
  unfold State.storeLanes; simp
@[simp] theorem State.storeLanes_cfg (s : State) (l : Vector BinLane 64) : (s.storeLanes l).cfg = s.cfg := by
  unfold State.storeLanes; simp
@[simp] theorem State.storeLanes_res (s : State) (l : Vector BinLane 64) : (s.storeLanes l).res = s.res := by
  unfold State.storeLanes; simp
@[simp] theorem State.storeLanes_port (s : State) (l : Vector BinLane 64) : (s.storeLanes l).port = s.port := by
  unfold State.storeLanes; simp
@[simp] theorem State.storeLanes_turns (s : State) (l : Vector BinLane 64) : (s.storeLanes l).turns = s.turns := by
  unfold State.storeLanes; simp
@[simp] theorem State.storeLanes_draws (s : State) (l : Vector BinLane 64) : (s.storeLanes l).draws = s.draws := by
  unfold State.storeLanes; simp
@[simp] theorem State.storeLanes_readData (s : State) (l : Vector BinLane 64) : (s.storeLanes l).readData = s.readData := by
  unfold State.storeLanes; simp

/-! ## normalise (42_goertzel.md R145, R146) -/

@[simp] theorem State.normalise_ctrl (s : State) (l : Vector BinLane 64) : (s.normalise l).ctrl = s.ctrl := by
  unfold State.normalise; split <;> rfl
@[simp] theorem State.normalise_busy (s : State) (l : Vector BinLane 64) : (s.normalise l).busy = s.busy := by
  unfold State.normalise; split <;> rfl
@[simp] theorem State.normalise_pendingCmd (s : State) (l : Vector BinLane 64) : (s.normalise l).pendingCmd = s.pendingCmd := by
  unfold State.normalise; split <;> rfl
@[simp] theorem State.normalise_done (s : State) (l : Vector BinLane 64) : (s.normalise l).done = s.done := by
  unfold State.normalise; split <;> rfl
@[simp] theorem State.normalise_onsetEvt (s : State) (l : Vector BinLane 64) : (s.normalise l).onsetEvt = s.onsetEvt := by
  unfold State.normalise; split <;> rfl
@[simp] theorem State.normalise_cfgFailAddr (s : State) (l : Vector BinLane 64) : (s.normalise l).cfgFailAddr = s.cfgFailAddr := by
  unfold State.normalise; split <;> rfl
@[simp] theorem State.normalise_irqEn (s : State) (l : Vector BinLane 64) : (s.normalise l).irqEn = s.irqEn := by
  unfold State.normalise; split <;> rfl
@[simp] theorem State.normalise_dcOffset (s : State) (l : Vector BinLane 64) : (s.normalise l).dcOffset = s.dcOffset := by
  unfold State.normalise; split <;> rfl
@[simp] theorem State.normalise_novInject (s : State) (l : Vector BinLane 64) : (s.normalise l).novInject = s.novInject := by
  unfold State.normalise; split <;> rfl
@[simp] theorem State.normalise_hopCount (s : State) (l : Vector BinLane 64) : (s.normalise l).hopCount = s.hopCount := by
  unfold State.normalise; split <;> rfl
@[simp] theorem State.normalise_droppedCount (s : State) (l : Vector BinLane 64) : (s.normalise l).droppedCount = s.droppedCount := by
  unfold State.normalise; split <;> rfl
@[simp] theorem State.normalise_lastCycles (s : State) (l : Vector BinLane 64) : (s.normalise l).lastCycles = s.lastCycles := by
  unfold State.normalise; split <;> rfl
@[simp] theorem State.normalise_cfg (s : State) (l : Vector BinLane 64) : (s.normalise l).cfg = s.cfg := by
  unfold State.normalise; split <;> rfl
@[simp] theorem State.normalise_res (s : State) (l : Vector BinLane 64) : (s.normalise l).res = s.res := by
  unfold State.normalise; split <;> rfl
@[simp] theorem State.normalise_port (s : State) (l : Vector BinLane 64) : (s.normalise l).port = s.port := by
  unfold State.normalise; split <;> rfl
@[simp] theorem State.normalise_turns (s : State) (l : Vector BinLane 64) : (s.normalise l).turns = s.turns := by
  unfold State.normalise; split <;> rfl
@[simp] theorem State.normalise_draws (s : State) (l : Vector BinLane 64) : (s.normalise l).draws = s.draws := by
  unfold State.normalise; split <;> rfl
@[simp] theorem State.normalise_readData (s : State) (l : Vector BinLane 64) : (s.normalise l).readData = s.readData := by
  unfold State.normalise; split <;> rfl
@[simp] theorem State.normalise_err (s : State) (l : Vector BinLane 64) : (s.normalise l).err = s.err := by
  unfold State.normalise; split <;> rfl
@[simp] theorem State.normalise_lastCode (s : State) (l : Vector BinLane 64) : (s.normalise l).lastCode = s.lastCode := by
  unfold State.normalise; split <;> rfl
@[simp] theorem State.normalise_numErrCount (s : State) (l : Vector BinLane 64) : (s.normalise l).numErrCount = s.numErrCount := by
  unfold State.normalise; split <;> rfl

/-! ## smooth (42_goertzel.md R147) -/

@[simp] theorem State.smooth_ctrl (s : State) : (s.smooth).ctrl = s.ctrl := by
  unfold State.smooth; rfl
@[simp] theorem State.smooth_busy (s : State) : (s.smooth).busy = s.busy := by
  unfold State.smooth; rfl
@[simp] theorem State.smooth_pendingCmd (s : State) : (s.smooth).pendingCmd = s.pendingCmd := by
  unfold State.smooth; rfl
@[simp] theorem State.smooth_done (s : State) : (s.smooth).done = s.done := by
  unfold State.smooth; rfl
@[simp] theorem State.smooth_onsetEvt (s : State) : (s.smooth).onsetEvt = s.onsetEvt := by
  unfold State.smooth; rfl
@[simp] theorem State.smooth_cfgFailAddr (s : State) : (s.smooth).cfgFailAddr = s.cfgFailAddr := by
  unfold State.smooth; rfl
@[simp] theorem State.smooth_irqEn (s : State) : (s.smooth).irqEn = s.irqEn := by
  unfold State.smooth; rfl
@[simp] theorem State.smooth_dcOffset (s : State) : (s.smooth).dcOffset = s.dcOffset := by
  unfold State.smooth; rfl
@[simp] theorem State.smooth_novInject (s : State) : (s.smooth).novInject = s.novInject := by
  unfold State.smooth; rfl
@[simp] theorem State.smooth_hopCount (s : State) : (s.smooth).hopCount = s.hopCount := by
  unfold State.smooth; rfl
@[simp] theorem State.smooth_droppedCount (s : State) : (s.smooth).droppedCount = s.droppedCount := by
  unfold State.smooth; rfl
@[simp] theorem State.smooth_lastCycles (s : State) : (s.smooth).lastCycles = s.lastCycles := by
  unfold State.smooth; rfl
@[simp] theorem State.smooth_cfg (s : State) : (s.smooth).cfg = s.cfg := by
  unfold State.smooth; rfl
@[simp] theorem State.smooth_res (s : State) : (s.smooth).res = s.res := by
  unfold State.smooth; rfl
@[simp] theorem State.smooth_port (s : State) : (s.smooth).port = s.port := by
  unfold State.smooth; rfl
@[simp] theorem State.smooth_turns (s : State) : (s.smooth).turns = s.turns := by
  unfold State.smooth; rfl
@[simp] theorem State.smooth_draws (s : State) : (s.smooth).draws = s.draws := by
  unfold State.smooth; rfl
@[simp] theorem State.smooth_readData (s : State) : (s.smooth).readData = s.readData := by
  unfold State.smooth; rfl
@[simp] theorem State.smooth_err (s : State) : (s.smooth).err = s.err := by
  unfold State.smooth; rfl
@[simp] theorem State.smooth_lastCode (s : State) : (s.smooth).lastCode = s.lastCode := by
  unfold State.smooth; rfl
@[simp] theorem State.smooth_numErrCount (s : State) : (s.smooth).numErrCount = s.numErrCount := by
  unfold State.smooth; rfl

/-! ## goertzel (42_goertzel.md R149) -/

@[simp] theorem State.goertzel_ctrl (s : State) : (s.goertzel).ctrl = s.ctrl := by
  simp [State.goertzel]
@[simp] theorem State.goertzel_busy (s : State) : (s.goertzel).busy = s.busy := by
  simp [State.goertzel]
@[simp] theorem State.goertzel_pendingCmd (s : State) : (s.goertzel).pendingCmd = s.pendingCmd := by
  simp [State.goertzel]
@[simp] theorem State.goertzel_done (s : State) : (s.goertzel).done = s.done := by
  simp [State.goertzel]
@[simp] theorem State.goertzel_onsetEvt (s : State) : (s.goertzel).onsetEvt = s.onsetEvt := by
  simp [State.goertzel]
@[simp] theorem State.goertzel_cfgFailAddr (s : State) : (s.goertzel).cfgFailAddr = s.cfgFailAddr := by
  simp [State.goertzel]
@[simp] theorem State.goertzel_irqEn (s : State) : (s.goertzel).irqEn = s.irqEn := by
  simp [State.goertzel]
@[simp] theorem State.goertzel_dcOffset (s : State) : (s.goertzel).dcOffset = s.dcOffset := by
  simp [State.goertzel]
@[simp] theorem State.goertzel_novInject (s : State) : (s.goertzel).novInject = s.novInject := by
  simp [State.goertzel]
@[simp] theorem State.goertzel_hopCount (s : State) : (s.goertzel).hopCount = s.hopCount := by
  simp [State.goertzel]
@[simp] theorem State.goertzel_droppedCount (s : State) : (s.goertzel).droppedCount = s.droppedCount := by
  simp [State.goertzel]
@[simp] theorem State.goertzel_lastCycles (s : State) : (s.goertzel).lastCycles = s.lastCycles := by
  simp [State.goertzel]
@[simp] theorem State.goertzel_cfg (s : State) : (s.goertzel).cfg = s.cfg := by
  simp [State.goertzel]
@[simp] theorem State.goertzel_res (s : State) : (s.goertzel).res = s.res := by
  simp [State.goertzel]
@[simp] theorem State.goertzel_port (s : State) : (s.goertzel).port = s.port := by
  simp [State.goertzel]
@[simp] theorem State.goertzel_turns (s : State) : (s.goertzel).turns = s.turns := by
  simp [State.goertzel]
@[simp] theorem State.goertzel_draws (s : State) : (s.goertzel).draws = s.draws := by
  simp [State.goertzel]
@[simp] theorem State.goertzel_readData (s : State) : (s.goertzel).readData = s.readData := by
  simp [State.goertzel]

/-! ## onset (43_onset.md R156) -/

@[simp] theorem State.onset_ctrl (s : State) : (s.onset).ctrl = s.ctrl := by
  simp [State.onset]
@[simp] theorem State.onset_busy (s : State) : (s.onset).busy = s.busy := by
  simp [State.onset]
@[simp] theorem State.onset_pendingCmd (s : State) : (s.onset).pendingCmd = s.pendingCmd := by
  simp [State.onset]
@[simp] theorem State.onset_done (s : State) : (s.onset).done = s.done := by
  simp [State.onset]
@[simp] theorem State.onset_onsetEvt (s : State) : (s.onset).onsetEvt = s.onsetEvt := by
  simp [State.onset]
@[simp] theorem State.onset_cfgFailAddr (s : State) : (s.onset).cfgFailAddr = s.cfgFailAddr := by
  simp [State.onset]
@[simp] theorem State.onset_irqEn (s : State) : (s.onset).irqEn = s.irqEn := by
  simp [State.onset]
@[simp] theorem State.onset_dcOffset (s : State) : (s.onset).dcOffset = s.dcOffset := by
  simp [State.onset]
@[simp] theorem State.onset_novInject (s : State) : (s.onset).novInject = s.novInject := by
  simp [State.onset]
@[simp] theorem State.onset_hopCount (s : State) : (s.onset).hopCount = s.hopCount := by
  simp [State.onset]
@[simp] theorem State.onset_droppedCount (s : State) : (s.onset).droppedCount = s.droppedCount := by
  simp [State.onset]
@[simp] theorem State.onset_lastCycles (s : State) : (s.onset).lastCycles = s.lastCycles := by
  simp [State.onset]
@[simp] theorem State.onset_cfg (s : State) : (s.onset).cfg = s.cfg := by
  simp [State.onset]
@[simp] theorem State.onset_res (s : State) : (s.onset).res = s.res := by
  simp [State.onset]
@[simp] theorem State.onset_port (s : State) : (s.onset).port = s.port := by
  simp [State.onset]
@[simp] theorem State.onset_turns (s : State) : (s.onset).turns = s.turns := by
  simp [State.onset]
@[simp] theorem State.onset_draws (s : State) : (s.onset).draws = s.draws := by
  simp [State.onset]
@[simp] theorem State.onset_readData (s : State) : (s.onset).readData = s.readData := by
  simp [State.onset]

/-! ## tempoOscillators (44_tempo.md R157 to R160) -/

@[simp] theorem State.tempoOscillators_ctrl (s : State) : (s.tempoOscillators).ctrl = s.ctrl := by
  simp [State.tempoOscillators]
@[simp] theorem State.tempoOscillators_busy (s : State) : (s.tempoOscillators).busy = s.busy := by
  simp [State.tempoOscillators]
@[simp] theorem State.tempoOscillators_pendingCmd (s : State) : (s.tempoOscillators).pendingCmd = s.pendingCmd := by
  simp [State.tempoOscillators]
@[simp] theorem State.tempoOscillators_done (s : State) : (s.tempoOscillators).done = s.done := by
  simp [State.tempoOscillators]
@[simp] theorem State.tempoOscillators_onsetEvt (s : State) : (s.tempoOscillators).onsetEvt = s.onsetEvt := by
  simp [State.tempoOscillators]
@[simp] theorem State.tempoOscillators_cfgFailAddr (s : State) : (s.tempoOscillators).cfgFailAddr = s.cfgFailAddr := by
  simp [State.tempoOscillators]
@[simp] theorem State.tempoOscillators_irqEn (s : State) : (s.tempoOscillators).irqEn = s.irqEn := by
  simp [State.tempoOscillators]
@[simp] theorem State.tempoOscillators_dcOffset (s : State) : (s.tempoOscillators).dcOffset = s.dcOffset := by
  simp [State.tempoOscillators]
@[simp] theorem State.tempoOscillators_novInject (s : State) : (s.tempoOscillators).novInject = s.novInject := by
  simp [State.tempoOscillators]
@[simp] theorem State.tempoOscillators_hopCount (s : State) : (s.tempoOscillators).hopCount = s.hopCount := by
  simp [State.tempoOscillators]
@[simp] theorem State.tempoOscillators_droppedCount (s : State) : (s.tempoOscillators).droppedCount = s.droppedCount := by
  simp [State.tempoOscillators]
@[simp] theorem State.tempoOscillators_lastCycles (s : State) : (s.tempoOscillators).lastCycles = s.lastCycles := by
  simp [State.tempoOscillators]
@[simp] theorem State.tempoOscillators_cfg (s : State) : (s.tempoOscillators).cfg = s.cfg := by
  simp [State.tempoOscillators]
@[simp] theorem State.tempoOscillators_res (s : State) : (s.tempoOscillators).res = s.res := by
  simp [State.tempoOscillators]
@[simp] theorem State.tempoOscillators_port (s : State) : (s.tempoOscillators).port = s.port := by
  simp [State.tempoOscillators]
@[simp] theorem State.tempoOscillators_turns (s : State) : (s.tempoOscillators).turns = s.turns := by
  simp [State.tempoOscillators]
@[simp] theorem State.tempoOscillators_draws (s : State) : (s.tempoOscillators).draws = s.draws := by
  simp [State.tempoOscillators]
@[simp] theorem State.tempoOscillators_readData (s : State) : (s.tempoOscillators).readData = s.readData := by
  simp [State.tempoOscillators]

/-! ## tempoPower (44_tempo.md R161, R162) -/

@[simp] theorem State.tempoPower_ctrl (s : State) : (s.tempoPower).ctrl = s.ctrl := by
  unfold State.tempoPower; rfl
@[simp] theorem State.tempoPower_busy (s : State) : (s.tempoPower).busy = s.busy := by
  unfold State.tempoPower; rfl
@[simp] theorem State.tempoPower_pendingCmd (s : State) : (s.tempoPower).pendingCmd = s.pendingCmd := by
  unfold State.tempoPower; rfl
@[simp] theorem State.tempoPower_done (s : State) : (s.tempoPower).done = s.done := by
  unfold State.tempoPower; rfl
@[simp] theorem State.tempoPower_onsetEvt (s : State) : (s.tempoPower).onsetEvt = s.onsetEvt := by
  unfold State.tempoPower; rfl
@[simp] theorem State.tempoPower_cfgFailAddr (s : State) : (s.tempoPower).cfgFailAddr = s.cfgFailAddr := by
  unfold State.tempoPower; rfl
@[simp] theorem State.tempoPower_irqEn (s : State) : (s.tempoPower).irqEn = s.irqEn := by
  unfold State.tempoPower; rfl
@[simp] theorem State.tempoPower_dcOffset (s : State) : (s.tempoPower).dcOffset = s.dcOffset := by
  unfold State.tempoPower; rfl
@[simp] theorem State.tempoPower_novInject (s : State) : (s.tempoPower).novInject = s.novInject := by
  unfold State.tempoPower; rfl
@[simp] theorem State.tempoPower_hopCount (s : State) : (s.tempoPower).hopCount = s.hopCount := by
  unfold State.tempoPower; rfl
@[simp] theorem State.tempoPower_droppedCount (s : State) : (s.tempoPower).droppedCount = s.droppedCount := by
  unfold State.tempoPower; rfl
@[simp] theorem State.tempoPower_lastCycles (s : State) : (s.tempoPower).lastCycles = s.lastCycles := by
  unfold State.tempoPower; rfl
@[simp] theorem State.tempoPower_cfg (s : State) : (s.tempoPower).cfg = s.cfg := by
  unfold State.tempoPower; rfl
@[simp] theorem State.tempoPower_res (s : State) : (s.tempoPower).res = s.res := by
  unfold State.tempoPower; rfl
@[simp] theorem State.tempoPower_port (s : State) : (s.tempoPower).port = s.port := by
  unfold State.tempoPower; rfl
@[simp] theorem State.tempoPower_turns (s : State) : (s.tempoPower).turns = s.turns := by
  unfold State.tempoPower; rfl
@[simp] theorem State.tempoPower_draws (s : State) : (s.tempoPower).draws = s.draws := by
  unfold State.tempoPower; rfl
@[simp] theorem State.tempoPower_readData (s : State) : (s.tempoPower).readData = s.readData := by
  unfold State.tempoPower; rfl
@[simp] theorem State.tempoPower_err (s : State) : (s.tempoPower).err = s.err := by
  unfold State.tempoPower; rfl
@[simp] theorem State.tempoPower_lastCode (s : State) : (s.tempoPower).lastCode = s.lastCode := by
  unfold State.tempoPower; rfl
@[simp] theorem State.tempoPower_numErrCount (s : State) : (s.tempoPower).numErrCount = s.numErrCount := by
  unfold State.tempoPower; rfl

/-! ## tempoConfidence (44_tempo.md R163) -/

@[simp] theorem State.tempoConfidence_ctrl (s : State) : (s.tempoConfidence).ctrl = s.ctrl := by
  unfold State.tempoConfidence; split
  · dsimp only; split <;> rfl
  · rfl
@[simp] theorem State.tempoConfidence_busy (s : State) : (s.tempoConfidence).busy = s.busy := by
  unfold State.tempoConfidence; split
  · dsimp only; split <;> rfl
  · rfl
@[simp] theorem State.tempoConfidence_pendingCmd (s : State) : (s.tempoConfidence).pendingCmd = s.pendingCmd := by
  unfold State.tempoConfidence; split
  · dsimp only; split <;> rfl
  · rfl
@[simp] theorem State.tempoConfidence_done (s : State) : (s.tempoConfidence).done = s.done := by
  unfold State.tempoConfidence; split
  · dsimp only; split <;> rfl
  · rfl
@[simp] theorem State.tempoConfidence_onsetEvt (s : State) : (s.tempoConfidence).onsetEvt = s.onsetEvt := by
  unfold State.tempoConfidence; split
  · dsimp only; split <;> rfl
  · rfl
@[simp] theorem State.tempoConfidence_cfgFailAddr (s : State) : (s.tempoConfidence).cfgFailAddr = s.cfgFailAddr := by
  unfold State.tempoConfidence; split
  · dsimp only; split <;> rfl
  · rfl
@[simp] theorem State.tempoConfidence_irqEn (s : State) : (s.tempoConfidence).irqEn = s.irqEn := by
  unfold State.tempoConfidence; split
  · dsimp only; split <;> rfl
  · rfl
@[simp] theorem State.tempoConfidence_dcOffset (s : State) : (s.tempoConfidence).dcOffset = s.dcOffset := by
  unfold State.tempoConfidence; split
  · dsimp only; split <;> rfl
  · rfl
@[simp] theorem State.tempoConfidence_novInject (s : State) : (s.tempoConfidence).novInject = s.novInject := by
  unfold State.tempoConfidence; split
  · dsimp only; split <;> rfl
  · rfl
@[simp] theorem State.tempoConfidence_hopCount (s : State) : (s.tempoConfidence).hopCount = s.hopCount := by
  unfold State.tempoConfidence; split
  · dsimp only; split <;> rfl
  · rfl
@[simp] theorem State.tempoConfidence_droppedCount (s : State) : (s.tempoConfidence).droppedCount = s.droppedCount := by
  unfold State.tempoConfidence; split
  · dsimp only; split <;> rfl
  · rfl
@[simp] theorem State.tempoConfidence_lastCycles (s : State) : (s.tempoConfidence).lastCycles = s.lastCycles := by
  unfold State.tempoConfidence; split
  · dsimp only; split <;> rfl
  · rfl
@[simp] theorem State.tempoConfidence_cfg (s : State) : (s.tempoConfidence).cfg = s.cfg := by
  unfold State.tempoConfidence; split
  · dsimp only; split <;> rfl
  · rfl
@[simp] theorem State.tempoConfidence_res (s : State) : (s.tempoConfidence).res = s.res := by
  unfold State.tempoConfidence; split
  · dsimp only; split <;> rfl
  · rfl
@[simp] theorem State.tempoConfidence_port (s : State) : (s.tempoConfidence).port = s.port := by
  unfold State.tempoConfidence; split
  · dsimp only; split <;> rfl
  · rfl
@[simp] theorem State.tempoConfidence_turns (s : State) : (s.tempoConfidence).turns = s.turns := by
  unfold State.tempoConfidence; split
  · dsimp only; split <;> rfl
  · rfl
@[simp] theorem State.tempoConfidence_draws (s : State) : (s.tempoConfidence).draws = s.draws := by
  unfold State.tempoConfidence; split
  · dsimp only; split <;> rfl
  · rfl
@[simp] theorem State.tempoConfidence_readData (s : State) : (s.tempoConfidence).readData = s.readData := by
  unfold State.tempoConfidence; split
  · dsimp only; split <;> rfl
  · rfl

/-! ## tempoContrib (44_tempo.md R164) -/

@[simp] theorem State.tempoContrib_ctrl (s : State) : (s.tempoContrib).ctrl = s.ctrl := by
  simp [State.tempoContrib]
@[simp] theorem State.tempoContrib_busy (s : State) : (s.tempoContrib).busy = s.busy := by
  simp [State.tempoContrib]
@[simp] theorem State.tempoContrib_pendingCmd (s : State) : (s.tempoContrib).pendingCmd = s.pendingCmd := by
  simp [State.tempoContrib]
@[simp] theorem State.tempoContrib_done (s : State) : (s.tempoContrib).done = s.done := by
  simp [State.tempoContrib]
@[simp] theorem State.tempoContrib_onsetEvt (s : State) : (s.tempoContrib).onsetEvt = s.onsetEvt := by
  simp [State.tempoContrib]
@[simp] theorem State.tempoContrib_cfgFailAddr (s : State) : (s.tempoContrib).cfgFailAddr = s.cfgFailAddr := by
  simp [State.tempoContrib]
@[simp] theorem State.tempoContrib_irqEn (s : State) : (s.tempoContrib).irqEn = s.irqEn := by
  simp [State.tempoContrib]
@[simp] theorem State.tempoContrib_dcOffset (s : State) : (s.tempoContrib).dcOffset = s.dcOffset := by
  simp [State.tempoContrib]
@[simp] theorem State.tempoContrib_novInject (s : State) : (s.tempoContrib).novInject = s.novInject := by
  simp [State.tempoContrib]
@[simp] theorem State.tempoContrib_hopCount (s : State) : (s.tempoContrib).hopCount = s.hopCount := by
  simp [State.tempoContrib]
@[simp] theorem State.tempoContrib_droppedCount (s : State) : (s.tempoContrib).droppedCount = s.droppedCount := by
  simp [State.tempoContrib]
@[simp] theorem State.tempoContrib_lastCycles (s : State) : (s.tempoContrib).lastCycles = s.lastCycles := by
  simp [State.tempoContrib]
@[simp] theorem State.tempoContrib_cfg (s : State) : (s.tempoContrib).cfg = s.cfg := by
  simp [State.tempoContrib]
@[simp] theorem State.tempoContrib_res (s : State) : (s.tempoContrib).res = s.res := by
  simp [State.tempoContrib]
@[simp] theorem State.tempoContrib_port (s : State) : (s.tempoContrib).port = s.port := by
  simp [State.tempoContrib]
@[simp] theorem State.tempoContrib_turns (s : State) : (s.tempoContrib).turns = s.turns := by
  simp [State.tempoContrib]
@[simp] theorem State.tempoContrib_draws (s : State) : (s.tempoContrib).draws = s.draws := by
  simp [State.tempoContrib]
@[simp] theorem State.tempoContrib_readData (s : State) : (s.tempoContrib).readData = s.readData := by
  simp [State.tempoContrib]

/-! ## tempoBpm (44_tempo.md R165) -/

@[simp] theorem State.tempoBpm_ctrl (s : State) : (s.tempoBpm).ctrl = s.ctrl := by
  unfold State.tempoBpm; split
  · split <;> rfl
  · rfl
@[simp] theorem State.tempoBpm_busy (s : State) : (s.tempoBpm).busy = s.busy := by
  unfold State.tempoBpm; split
  · split <;> rfl
  · rfl
@[simp] theorem State.tempoBpm_pendingCmd (s : State) : (s.tempoBpm).pendingCmd = s.pendingCmd := by
  unfold State.tempoBpm; split
  · split <;> rfl
  · rfl
@[simp] theorem State.tempoBpm_done (s : State) : (s.tempoBpm).done = s.done := by
  unfold State.tempoBpm; split
  · split <;> rfl
  · rfl
@[simp] theorem State.tempoBpm_onsetEvt (s : State) : (s.tempoBpm).onsetEvt = s.onsetEvt := by
  unfold State.tempoBpm; split
  · split <;> rfl
  · rfl
@[simp] theorem State.tempoBpm_cfgFailAddr (s : State) : (s.tempoBpm).cfgFailAddr = s.cfgFailAddr := by
  unfold State.tempoBpm; split
  · split <;> rfl
  · rfl
@[simp] theorem State.tempoBpm_irqEn (s : State) : (s.tempoBpm).irqEn = s.irqEn := by
  unfold State.tempoBpm; split
  · split <;> rfl
  · rfl
@[simp] theorem State.tempoBpm_dcOffset (s : State) : (s.tempoBpm).dcOffset = s.dcOffset := by
  unfold State.tempoBpm; split
  · split <;> rfl
  · rfl
@[simp] theorem State.tempoBpm_novInject (s : State) : (s.tempoBpm).novInject = s.novInject := by
  unfold State.tempoBpm; split
  · split <;> rfl
  · rfl
@[simp] theorem State.tempoBpm_hopCount (s : State) : (s.tempoBpm).hopCount = s.hopCount := by
  unfold State.tempoBpm; split
  · split <;> rfl
  · rfl
@[simp] theorem State.tempoBpm_droppedCount (s : State) : (s.tempoBpm).droppedCount = s.droppedCount := by
  unfold State.tempoBpm; split
  · split <;> rfl
  · rfl
@[simp] theorem State.tempoBpm_lastCycles (s : State) : (s.tempoBpm).lastCycles = s.lastCycles := by
  unfold State.tempoBpm; split
  · split <;> rfl
  · rfl
@[simp] theorem State.tempoBpm_cfg (s : State) : (s.tempoBpm).cfg = s.cfg := by
  unfold State.tempoBpm; split
  · split <;> rfl
  · rfl
@[simp] theorem State.tempoBpm_res (s : State) : (s.tempoBpm).res = s.res := by
  unfold State.tempoBpm; split
  · split <;> rfl
  · rfl
@[simp] theorem State.tempoBpm_port (s : State) : (s.tempoBpm).port = s.port := by
  unfold State.tempoBpm; split
  · split <;> rfl
  · rfl
@[simp] theorem State.tempoBpm_turns (s : State) : (s.tempoBpm).turns = s.turns := by
  unfold State.tempoBpm; split
  · split <;> rfl
  · rfl
@[simp] theorem State.tempoBpm_draws (s : State) : (s.tempoBpm).draws = s.draws := by
  unfold State.tempoBpm; split
  · split <;> rfl
  · rfl
@[simp] theorem State.tempoBpm_readData (s : State) : (s.tempoBpm).readData = s.readData := by
  unfold State.tempoBpm; split
  · split <;> rfl
  · rfl

/-! ## tempoPhase (44_tempo.md R166) -/

@[simp] theorem State.tempoPhase_ctrl (s : State) (e : Nat) : (s.tempoPhase e).ctrl = s.ctrl := by
  unfold State.tempoPhase; split
  · split <;> rfl
  · rfl
@[simp] theorem State.tempoPhase_busy (s : State) (e : Nat) : (s.tempoPhase e).busy = s.busy := by
  unfold State.tempoPhase; split
  · split <;> rfl
  · rfl
@[simp] theorem State.tempoPhase_pendingCmd (s : State) (e : Nat) : (s.tempoPhase e).pendingCmd = s.pendingCmd := by
  unfold State.tempoPhase; split
  · split <;> rfl
  · rfl
@[simp] theorem State.tempoPhase_done (s : State) (e : Nat) : (s.tempoPhase e).done = s.done := by
  unfold State.tempoPhase; split
  · split <;> rfl
  · rfl
@[simp] theorem State.tempoPhase_onsetEvt (s : State) (e : Nat) : (s.tempoPhase e).onsetEvt = s.onsetEvt := by
  unfold State.tempoPhase; split
  · split <;> rfl
  · rfl
@[simp] theorem State.tempoPhase_cfgFailAddr (s : State) (e : Nat) : (s.tempoPhase e).cfgFailAddr = s.cfgFailAddr := by
  unfold State.tempoPhase; split
  · split <;> rfl
  · rfl
@[simp] theorem State.tempoPhase_irqEn (s : State) (e : Nat) : (s.tempoPhase e).irqEn = s.irqEn := by
  unfold State.tempoPhase; split
  · split <;> rfl
  · rfl
@[simp] theorem State.tempoPhase_dcOffset (s : State) (e : Nat) : (s.tempoPhase e).dcOffset = s.dcOffset := by
  unfold State.tempoPhase; split
  · split <;> rfl
  · rfl
@[simp] theorem State.tempoPhase_novInject (s : State) (e : Nat) : (s.tempoPhase e).novInject = s.novInject := by
  unfold State.tempoPhase; split
  · split <;> rfl
  · rfl
@[simp] theorem State.tempoPhase_hopCount (s : State) (e : Nat) : (s.tempoPhase e).hopCount = s.hopCount := by
  unfold State.tempoPhase; split
  · split <;> rfl
  · rfl
@[simp] theorem State.tempoPhase_droppedCount (s : State) (e : Nat) : (s.tempoPhase e).droppedCount = s.droppedCount := by
  unfold State.tempoPhase; split
  · split <;> rfl
  · rfl
@[simp] theorem State.tempoPhase_lastCycles (s : State) (e : Nat) : (s.tempoPhase e).lastCycles = s.lastCycles := by
  unfold State.tempoPhase; split
  · split <;> rfl
  · rfl
@[simp] theorem State.tempoPhase_cfg (s : State) (e : Nat) : (s.tempoPhase e).cfg = s.cfg := by
  unfold State.tempoPhase; split
  · split <;> rfl
  · rfl
@[simp] theorem State.tempoPhase_res (s : State) (e : Nat) : (s.tempoPhase e).res = s.res := by
  unfold State.tempoPhase; split
  · split <;> rfl
  · rfl
@[simp] theorem State.tempoPhase_port (s : State) (e : Nat) : (s.tempoPhase e).port = s.port := by
  unfold State.tempoPhase; split
  · split <;> rfl
  · rfl
@[simp] theorem State.tempoPhase_turns (s : State) (e : Nat) : (s.tempoPhase e).turns = s.turns := by
  unfold State.tempoPhase; split
  · split <;> rfl
  · rfl
@[simp] theorem State.tempoPhase_draws (s : State) (e : Nat) : (s.tempoPhase e).draws = s.draws := by
  unfold State.tempoPhase; split
  · split <;> rfl
  · rfl
@[simp] theorem State.tempoPhase_readData (s : State) (e : Nat) : (s.tempoPhase e).readData = s.readData := by
  unfold State.tempoPhase; split
  · split <;> rfl
  · rfl

/-! ## tempoLock (44_tempo.md R167, R168) -/

@[simp] theorem State.tempoLock_ctrl (s : State) : (s.tempoLock).ctrl = s.ctrl := by
  unfold State.tempoLock; rfl
@[simp] theorem State.tempoLock_busy (s : State) : (s.tempoLock).busy = s.busy := by
  unfold State.tempoLock; rfl
@[simp] theorem State.tempoLock_pendingCmd (s : State) : (s.tempoLock).pendingCmd = s.pendingCmd := by
  unfold State.tempoLock; rfl
@[simp] theorem State.tempoLock_done (s : State) : (s.tempoLock).done = s.done := by
  unfold State.tempoLock; rfl
@[simp] theorem State.tempoLock_onsetEvt (s : State) : (s.tempoLock).onsetEvt = s.onsetEvt := by
  unfold State.tempoLock; rfl
@[simp] theorem State.tempoLock_cfgFailAddr (s : State) : (s.tempoLock).cfgFailAddr = s.cfgFailAddr := by
  unfold State.tempoLock; rfl
@[simp] theorem State.tempoLock_irqEn (s : State) : (s.tempoLock).irqEn = s.irqEn := by
  unfold State.tempoLock; rfl
@[simp] theorem State.tempoLock_dcOffset (s : State) : (s.tempoLock).dcOffset = s.dcOffset := by
  unfold State.tempoLock; rfl
@[simp] theorem State.tempoLock_novInject (s : State) : (s.tempoLock).novInject = s.novInject := by
  unfold State.tempoLock; rfl
@[simp] theorem State.tempoLock_hopCount (s : State) : (s.tempoLock).hopCount = s.hopCount := by
  unfold State.tempoLock; rfl
@[simp] theorem State.tempoLock_droppedCount (s : State) : (s.tempoLock).droppedCount = s.droppedCount := by
  unfold State.tempoLock; rfl
@[simp] theorem State.tempoLock_lastCycles (s : State) : (s.tempoLock).lastCycles = s.lastCycles := by
  unfold State.tempoLock; rfl
@[simp] theorem State.tempoLock_cfg (s : State) : (s.tempoLock).cfg = s.cfg := by
  unfold State.tempoLock; rfl
@[simp] theorem State.tempoLock_res (s : State) : (s.tempoLock).res = s.res := by
  unfold State.tempoLock; rfl
@[simp] theorem State.tempoLock_port (s : State) : (s.tempoLock).port = s.port := by
  unfold State.tempoLock; rfl
@[simp] theorem State.tempoLock_turns (s : State) : (s.tempoLock).turns = s.turns := by
  unfold State.tempoLock; rfl
@[simp] theorem State.tempoLock_draws (s : State) : (s.tempoLock).draws = s.draws := by
  unfold State.tempoLock; rfl
@[simp] theorem State.tempoLock_readData (s : State) : (s.tempoLock).readData = s.readData := by
  unfold State.tempoLock; rfl
@[simp] theorem State.tempoLock_err (s : State) : (s.tempoLock).err = s.err := by
  unfold State.tempoLock; rfl
@[simp] theorem State.tempoLock_lastCode (s : State) : (s.tempoLock).lastCode = s.lastCode := by
  unfold State.tempoLock; rfl
@[simp] theorem State.tempoLock_numErrCount (s : State) : (s.tempoLock).numErrCount = s.numErrCount := by
  unfold State.tempoLock; rfl

/-! ## tempo (44_tempo.md R169) -/

@[simp] theorem State.tempo_ctrl (s : State) : (s.tempo).ctrl = s.ctrl := by
  simp [State.tempo]
@[simp] theorem State.tempo_busy (s : State) : (s.tempo).busy = s.busy := by
  simp [State.tempo]
@[simp] theorem State.tempo_pendingCmd (s : State) : (s.tempo).pendingCmd = s.pendingCmd := by
  simp [State.tempo]
@[simp] theorem State.tempo_done (s : State) : (s.tempo).done = s.done := by
  simp [State.tempo]
@[simp] theorem State.tempo_onsetEvt (s : State) : (s.tempo).onsetEvt = s.onsetEvt := by
  simp [State.tempo]
@[simp] theorem State.tempo_cfgFailAddr (s : State) : (s.tempo).cfgFailAddr = s.cfgFailAddr := by
  simp [State.tempo]
@[simp] theorem State.tempo_irqEn (s : State) : (s.tempo).irqEn = s.irqEn := by
  simp [State.tempo]
@[simp] theorem State.tempo_dcOffset (s : State) : (s.tempo).dcOffset = s.dcOffset := by
  simp [State.tempo]
@[simp] theorem State.tempo_novInject (s : State) : (s.tempo).novInject = s.novInject := by
  simp [State.tempo]
@[simp] theorem State.tempo_hopCount (s : State) : (s.tempo).hopCount = s.hopCount := by
  simp [State.tempo]
@[simp] theorem State.tempo_droppedCount (s : State) : (s.tempo).droppedCount = s.droppedCount := by
  simp [State.tempo]
@[simp] theorem State.tempo_lastCycles (s : State) : (s.tempo).lastCycles = s.lastCycles := by
  simp [State.tempo]
@[simp] theorem State.tempo_cfg (s : State) : (s.tempo).cfg = s.cfg := by
  simp [State.tempo]
@[simp] theorem State.tempo_res (s : State) : (s.tempo).res = s.res := by
  simp [State.tempo]
@[simp] theorem State.tempo_port (s : State) : (s.tempo).port = s.port := by
  simp [State.tempo]
@[simp] theorem State.tempo_turns (s : State) : (s.tempo).turns = s.turns := by
  simp [State.tempo]
@[simp] theorem State.tempo_draws (s : State) : (s.tempo).draws = s.draws := by
  simp [State.tempo]
@[simp] theorem State.tempo_readData (s : State) : (s.tempo).readData = s.readData := by
  simp [State.tempo]

/-! ## commit (45_commit.md R170) -/

@[simp] theorem State.commit_ctrl (s : State) : (s.commit).ctrl = s.ctrl := rfl
@[simp] theorem State.commit_busy (s : State) : (s.commit).busy = s.busy := rfl
@[simp] theorem State.commit_pendingCmd (s : State) : (s.commit).pendingCmd = s.pendingCmd := rfl
@[simp] theorem State.commit_done (s : State) : (s.commit).done = s.done := rfl
@[simp] theorem State.commit_cfgFailAddr (s : State) : (s.commit).cfgFailAddr = s.cfgFailAddr := rfl
@[simp] theorem State.commit_irqEn (s : State) : (s.commit).irqEn = s.irqEn := rfl
@[simp] theorem State.commit_dcOffset (s : State) : (s.commit).dcOffset = s.dcOffset := rfl
@[simp] theorem State.commit_novInject (s : State) : (s.commit).novInject = s.novInject := rfl
@[simp] theorem State.commit_hopCount (s : State) : (s.commit).hopCount = s.hopCount := rfl
@[simp] theorem State.commit_droppedCount (s : State) : (s.commit).droppedCount = s.droppedCount := rfl
@[simp] theorem State.commit_lastCycles (s : State) : (s.commit).lastCycles = s.lastCycles := rfl
@[simp] theorem State.commit_cfg (s : State) : (s.commit).cfg = s.cfg := rfl
@[simp] theorem State.commit_port (s : State) : (s.commit).port = s.port := rfl
@[simp] theorem State.commit_turns (s : State) : (s.commit).turns = s.turns := rfl
@[simp] theorem State.commit_draws (s : State) : (s.commit).draws = s.draws := rfl
@[simp] theorem State.commit_readData (s : State) : (s.commit).readData = s.readData := rfl
@[simp] theorem State.commit_err (s : State) : (s.commit).err = s.err := rfl
@[simp] theorem State.commit_lastCode (s : State) : (s.commit).lastCode = s.lastCode := rfl
@[simp] theorem State.commit_numErrCount (s : State) : (s.commit).numErrCount = s.numErrCount := rfl
@[simp] theorem State.commit_dyn (s : State) : (s.commit).dyn = s.dyn := rfl

/-! ## countHop (40_sequencer.md R126) -/

@[simp] theorem State.countHop_ctrl (s : State) : (s.countHop).ctrl = s.ctrl := rfl
@[simp] theorem State.countHop_busy (s : State) : (s.countHop).busy = s.busy := rfl
@[simp] theorem State.countHop_pendingCmd (s : State) : (s.countHop).pendingCmd = s.pendingCmd := rfl
@[simp] theorem State.countHop_done (s : State) : (s.countHop).done = s.done := rfl
@[simp] theorem State.countHop_onsetEvt (s : State) : (s.countHop).onsetEvt = s.onsetEvt := rfl
@[simp] theorem State.countHop_cfgFailAddr (s : State) : (s.countHop).cfgFailAddr = s.cfgFailAddr := rfl
@[simp] theorem State.countHop_irqEn (s : State) : (s.countHop).irqEn = s.irqEn := rfl
@[simp] theorem State.countHop_dcOffset (s : State) : (s.countHop).dcOffset = s.dcOffset := rfl
@[simp] theorem State.countHop_novInject (s : State) : (s.countHop).novInject = s.novInject := rfl
@[simp] theorem State.countHop_droppedCount (s : State) : (s.countHop).droppedCount = s.droppedCount := rfl
@[simp] theorem State.countHop_lastCycles (s : State) : (s.countHop).lastCycles = s.lastCycles := rfl
@[simp] theorem State.countHop_cfg (s : State) : (s.countHop).cfg = s.cfg := rfl
@[simp] theorem State.countHop_res (s : State) : (s.countHop).res = s.res := rfl
@[simp] theorem State.countHop_port (s : State) : (s.countHop).port = s.port := rfl
@[simp] theorem State.countHop_turns (s : State) : (s.countHop).turns = s.turns := rfl
@[simp] theorem State.countHop_draws (s : State) : (s.countHop).draws = s.draws := rfl
@[simp] theorem State.countHop_readData (s : State) : (s.countHop).readData = s.readData := rfl
@[simp] theorem State.countHop_err (s : State) : (s.countHop).err = s.err := rfl
@[simp] theorem State.countHop_lastCode (s : State) : (s.countHop).lastCode = s.lastCode := rfl
@[simp] theorem State.countHop_numErrCount (s : State) : (s.countHop).numErrCount = s.numErrCount := rfl
@[simp] theorem State.countHop_dyn (s : State) : (s.countHop).dyn = s.dyn := rfl

/-! ## hop (40_sequencer.md R126) -/

@[simp] theorem State.hop_ctrl (s : State) : (s.hop).ctrl = s.ctrl := by
  simp [State.hop]
@[simp] theorem State.hop_busy (s : State) : (s.hop).busy = s.busy := by
  simp [State.hop]
@[simp] theorem State.hop_pendingCmd (s : State) : (s.hop).pendingCmd = s.pendingCmd := by
  simp [State.hop]
@[simp] theorem State.hop_done (s : State) : (s.hop).done = s.done := by
  simp [State.hop]
@[simp] theorem State.hop_cfgFailAddr (s : State) : (s.hop).cfgFailAddr = s.cfgFailAddr := by
  simp [State.hop]
@[simp] theorem State.hop_irqEn (s : State) : (s.hop).irqEn = s.irqEn := by
  simp [State.hop]
@[simp] theorem State.hop_dcOffset (s : State) : (s.hop).dcOffset = s.dcOffset := by
  simp [State.hop]
@[simp] theorem State.hop_novInject (s : State) : (s.hop).novInject = s.novInject := by
  simp [State.hop]
@[simp] theorem State.hop_droppedCount (s : State) : (s.hop).droppedCount = s.droppedCount := by
  simp [State.hop]
@[simp] theorem State.hop_lastCycles (s : State) : (s.hop).lastCycles = s.lastCycles := by
  simp [State.hop]
@[simp] theorem State.hop_cfg (s : State) : (s.hop).cfg = s.cfg := by
  simp [State.hop]
@[simp] theorem State.hop_port (s : State) : (s.hop).port = s.port := by
  simp [State.hop]
@[simp] theorem State.hop_turns (s : State) : (s.hop).turns = s.turns := by
  simp [State.hop]
@[simp] theorem State.hop_readData (s : State) : (s.hop).readData = s.readData := by
  simp [State.hop]

/-! ## What each stage can change of the dynamic state -/

theorem State.storeLanes_dyn (s : State) (l : Vector BinLane 64) : (s.storeLanes l).dyn =
    { s.dyn with wRaw := (s.storeLanes l).dyn.wRaw, wNfMask0 := (s.storeLanes l).dyn.wNfMask0, wNfMask1 := (s.storeLanes l).dyn.wNfMask1 } := by
  simp [State.storeLanes]

theorem State.normalise_dyn (s : State) (l : Vector BinLane 64) : (s.normalise l).dyn =
    { s.dyn with zoneLevel := (s.normalise l).dyn.zoneLevel, wMag := (s.normalise l).dyn.wMag } := by
  unfold State.normalise; split <;> rfl

theorem State.smooth_dyn (s : State) : (s.smooth).dyn =
    { s.dyn with wFast := (s.smooth).dyn.wFast, wSlow := (s.smooth).dyn.wSlow } := by
  unfold State.smooth; rfl

theorem State.onset_dyn (s : State) : (s.onset).dyn =
    { s.dyn with prevMag := (s.onset).dyn.prevMag, novHist := (s.onset).dyn.novHist, novWptr := (s.onset).dyn.novWptr, wFlux := (s.onset).dyn.wFlux, wBaseline := (s.onset).dyn.wBaseline, wNovelty := (s.onset).dyn.wNovelty, wXin := (s.onset).dyn.wXin, wOnset := (s.onset).dyn.wOnset } := by
  simp [State.onset]

theorem State.tempoOscillators_dyn (s : State) : (s.tempoOscillators).dyn =
    { s.dyn with elapsedPend := (s.tempoOscillators).dyn.elapsedPend, wBpmRej := (s.tempoOscillators).dyn.wBpmRej, oscRe := (s.tempoOscillators).dyn.oscRe, oscIm := (s.tempoOscillators).dyn.oscIm, oscRaw := (s.tempoOscillators).dyn.oscRaw, oscPhase := (s.tempoOscillators).dyn.oscPhase, oscActive := (s.tempoOscillators).dyn.oscActive, oscSmooth := (s.tempoOscillators).dyn.oscSmooth } := by
  simp [State.tempoOscillators]

theorem State.tempoPower_dyn (s : State) : (s.tempoPower).dyn =
    { s.dyn with wPowerSum := (s.tempoPower).dyn.wPowerSum, wWinner := (s.tempoPower).dyn.wWinner } := by
  unfold State.tempoPower; rfl

theorem State.tempoConfidence_dyn (s : State) : (s.tempoConfidence).dyn =
    { s.dyn with wConf := (s.tempoConfidence).dyn.wConf } := by
  unfold State.tempoConfidence; split
  · dsimp only; split <;> rfl
  · rfl

theorem State.tempoContrib_dyn (s : State) : (s.tempoContrib).dyn =
    { s.dyn with oscContrib := (s.tempoContrib).dyn.oscContrib } := by
  simp [State.tempoContrib]

theorem State.tempoBpm_dyn (s : State) : (s.tempoBpm).dyn =
    { s.dyn with wBpm := (s.tempoBpm).dyn.wBpm, tempoOsc := (s.tempoBpm).dyn.tempoOsc, tempoValid := (s.tempoBpm).dyn.tempoValid, wBpmRej := (s.tempoBpm).dyn.wBpmRej } := by
  unfold State.tempoBpm; split
  · split <;> rfl
  · rfl

theorem State.tempoPhase_dyn (s : State) (e : Nat) : (s.tempoPhase e).dyn =
    { s.dyn with wPhase := (s.tempoPhase e).dyn.wPhase, wPolarity := (s.tempoPhase e).dyn.wPolarity } := by
  unfold State.tempoPhase; split
  · split <;> rfl
  · rfl

theorem State.tempoLock_dyn (s : State) : (s.tempoLock).dyn =
    { s.dyn with wPhase01 := (s.tempoLock).dyn.wPhase01, wLocked := (s.tempoLock).dyn.wLocked } := by
  unfold State.tempoLock; rfl

end Sys2Proof.Machine
end

