-- ==== Sys2Proof/Tests/Slice0.lean ====
section
/-! SUPPORT. Tests: the well-formedness smoke, every constructor's decoding from a word written out from 30_encoding.md,
worked examples of the spec, and for each statement with hypotheses a state and operands that meet them. -/

namespace Sys2Proof.Tests

set_option Elab.async false

open Sys2Proof Sys2Proof.Machine

/-! ## Well-formedness: what the check refuses (30_encoding.md R114) -/

theorem test_wf_runtime_refused : (Instr.wrRuntime 0x0044#16 0#32).wf = false := by decide
theorem test_wf_cfg_past_scalars_refused : (Instr.wrCfg 0x00DC#16 0#32).wf = false := by decide
theorem test_wf_cfg_hole_refused : (Instr.wrCfg 0x11E4#16 0#32).wf = false := by decide
theorem test_wf_cfg_misaligned_refused : (Instr.wrCfg 0x0081#16 0#32).wf = false := by decide
theorem test_wf_other_named_refused : (Instr.wrOther .word 0x0014#16 0#32).wf = false := by decide
theorem test_wf_other_cfg_refused : (Instr.wrOther .word 0x5FFC#16 0#32).wf = false := by decide
theorem test_wf_other_byte_accepted : (Instr.wrOther .byte 0x0014#16 0#32).wf = true := by decide

/-! ## Decoding: words written out from 30_encoding.md R111, R112 (a command is `zext_32(OP)`, little-endian) -/

theorem test_decode_nop : decode [0x00#8, 0x00#8, 0x00#8, 0x00#8] = .ok .nop := by decide
theorem test_decode_push_chunk : decode [0x01#8, 0x00#8, 0x00#8, 0x00#8] = .ok .pushChunk := by decide
theorem test_decode_run_goertzel : decode [0x02#8, 0x00#8, 0x00#8, 0x00#8] = .ok .runGoertzel := by decide
theorem test_decode_run_onset : decode [0x03#8, 0x00#8, 0x00#8, 0x00#8] = .ok .runOnset := by decide
theorem test_decode_run_tempo : decode [0x04#8, 0x00#8, 0x00#8, 0x00#8] = .ok .runTempo := by decide
theorem test_decode_commit : decode [0x05#8, 0x00#8, 0x00#8, 0x00#8] = .ok .commit := by decide
theorem test_decode_hop : decode [0x06#8, 0x00#8, 0x00#8, 0x00#8] = .ok .hop := by decide
theorem test_decode_skip_hop : decode [0x07#8, 0x00#8, 0x00#8, 0x00#8] = .ok .skipHop := by decide
theorem test_decode_clear_state : decode [0x08#8, 0x00#8, 0x00#8, 0x00#8] = .ok .clearState := by decide
theorem test_decode_soft_reset : decode [0x09#8, 0x00#8, 0x00#8, 0x00#8] = .ok .softReset := by decide
theorem test_decode_reserved_op :
    decode [0x0A#8, 0x00#8, 0x00#8, 0x00#8] = .error (.reservedCommand 0x0000000A#32) := by decide
theorem test_decode_mbz :
    decode [0x06#8, 0x01#8, 0x00#8, 0x00#8] = .error (.reservedCommand 0x00000106#32) := by decide

/-! ## Decoding of bus accesses: OFFSET and DIR from 30_encoding.md R114, the record of notes/assumptions/3.md -/

theorem test_decode_wr_ctrl : decode [0x14#8, 0x00#8, 0x00#8, 0x00#8, 0x1F#8, 0x00#8, 0x00#8, 0x00#8] =
    .ok (.wrCtrl 0x0000001F#32) := by decide
theorem test_decode_wr_cmd : decode [0x18#8, 0x00#8, 0x00#8, 0x00#8, 0x06#8, 0x01#8, 0x00#8, 0x80#8] =
    .ok (.wrCmd 0x80000106#32) := by decide
theorem test_decode_wr_status : decode [0x1C#8, 0x00#8, 0x00#8, 0x00#8, 0x06#8, 0x00#8, 0x00#8, 0x00#8] =
    .ok (.wrStatus 0x00000006#32) := by decide
theorem test_decode_wr_err : decode [0x20#8, 0x00#8, 0x00#8, 0x00#8, 0xFF#8, 0x07#8, 0x00#8, 0x00#8] =
    .ok (.wrErr 0x000007FF#32) := by decide
theorem test_decode_wr_irq_en : decode [0x2C#8, 0x00#8, 0x00#8, 0x00#8, 0x05#8, 0x00#8, 0x00#8, 0x00#8] =
    .ok (.wrIrqEn 0x00000005#32) := by decide
theorem test_decode_wr_sample_in : decode [0x34#8, 0x00#8, 0x00#8, 0x00#8, 0xFF#8, 0xFF#8, 0x01#8, 0x00#8] =
    .ok (.wrSampleIn 0x0001FFFF#32) := by decide
theorem test_decode_wr_sample_pair : decode [0x38#8, 0x00#8, 0x00#8, 0x00#8, 0xFF#8, 0x7F#8, 0x00#8, 0x80#8] =
    .ok (.wrSamplePair 0x80007FFF#32) := by decide
theorem test_decode_wr_runtime : decode [0x40#8, 0x00#8, 0x00#8, 0x00#8, 0x00#8, 0x00#8, 0x80#8, 0x3F#8] =
    .ok (.wrRuntime 0x0040#16 0x3F800000#32) := by decide
theorem test_decode_wr_cfg : decode [0xFC#8, 0x5F#8, 0x00#8, 0x00#8, 0x00#8, 0x00#8, 0x80#8, 0x3F#8] =
    .ok (.wrCfg 0x5FFC#16 0x3F800000#32) := by decide
theorem test_decode_wr_other : decode [0xE4#8, 0x11#8, 0x00#8, 0x00#8, 0x05#8, 0x00#8, 0x00#8, 0x00#8] =
    .ok (.wrOther .word 0x11E4#16 0x00000005#32) := by decide
theorem test_decode_wr_other_half : decode [0x14#8, 0x00#8, 0x04#8, 0x00#8, 0x01#8, 0x00#8, 0x00#8, 0x00#8] =
    .ok (.wrOther .half 0x0014#16 0x00000001#32) := by decide
theorem test_decode_rd : decode [0x00#8, 0x01#8, 0x01#8, 0x00#8, 0x00#8, 0x00#8, 0x00#8, 0x00#8] =
    .ok (.rd .word 0x0100#16) := by decide
theorem test_decode_width_refused : decode [0x00#8, 0x01#8, 0x06#8, 0x00#8, 0x00#8, 0x00#8, 0x00#8, 0x00#8] =
    .error .reservedWidth := by decide

/-! ## binary32 arithmetic: correctly rounded values worked out by hand (00_scope.md R16) -/

theorem test_f32_third : ((val 0x3F800000#32).div (val 0x40400000#32)).toBits = 0x3EAAAAAB#32 := by decide +kernel
theorem test_f32_tenths : ((val 0x3DCCCCCD#32).add (val 0x3E4CCCCD#32)).toBits = 0x3E99999A#32 := by decide +kernel
theorem test_f32_root_two : (val 0x40000000#32).sqrt.toBits = 0x3FB504F3#32 := by decide +kernel
theorem test_f32_overflow : ((val 0x7F7FFFFF#32).add (val 0x7F7FFFFF#32)).toBits = 0x7F800000#32 := by decide +kernel
theorem test_f32_subnormal : ((val 0x00800000#32).mul (val 0x3F000000#32)).toBits = 0x00400000#32 := by decide +kernel
theorem test_f32_tie_to_even : ((val 0x4B800000#32).add (val 0x3F800000#32)).toBits = 0x4B800000#32 := by decide +kernel
theorem test_f32_exact_zero_is_plus : ((val 0x3F800000#32).sub (val 0x3F800000#32)).toBits = 0x00000000#32 := by
  decide +kernel

/-! ## States for the tests -/

/-- A configuration that passes the enable check: increasing frequencies, windows of one sample, all else at reset. -/
def okCfg : Cfg := { Cfg.reset with
  binFreq := Vector.ofFn fun k : Fin 64 => BitVec.ofNat 32 (0x3F800000 + k.val)
  binN := Vector.replicate 64 1#32 }

/-- Enabled, on `okCfg`, with all modes off. -/
def enabledState : State := { State.reset with cfg := okCfg, ctrl := 0x01#5 }

/-- Enabled, with a whole chunk of zeros staged. -/
def stagedState : State := { enabledState with dyn := { Dyn.reset with stageCount := 128 } }

/-- Reset, with a command running. -/
def busyState (op : BitVec 8) : State := { State.reset with busy := true, pendingCmd := op }

/-- What an outcome says of its next state; `d` where there is none. -/
def nextD {α : Type} (d : α) (f : State → α) : Host.Outcome State Fault Refusal → α
  | .next t => f t
  | .fault _ => d
  | .refused _ => d

theorem okCfg_validate : okCfg.validate = none := by
  apply Cfg.validate_eq_none
  intro w
  cases w with
  | scalar r => cases r <;> decide +kernel
  | bin t k =>
    cases t with
    | freq => revert k; decide +kernel
    | n => simp only [Cfg.check, okCfg, Fin.getElem_fin, Vector.getElem_replicate]; decide
    | cos => simp only [Cfg.check, okCfg, Cfg.reset, Fin.getElem_fin, Vector.getElem_replicate]; decide
    | sin => simp only [Cfg.check, okCfg, Cfg.reset, Fin.getElem_fin, Vector.getElem_replicate]; decide
    | gain => simp only [Cfg.check, okCfg, Cfg.reset, Fin.getElem_fin, Vector.getElem_replicate]; decide
  | osc t m =>
    cases t <;> simp only [Cfg.check, okCfg, Cfg.reset, Fin.getElem_fin, Vector.getElem_replicate] <;> decide +kernel
  | win j => simp only [Cfg.check, okCfg, Cfg.reset, Fin.getElem_fin, Vector.getElem_replicate]; decide

/-! ## Worked examples of the spec -/

/-- 40_sequencer.md R120, example. -/
theorem test_cmd_not_enabled : nextD [] (fun t => [t.word .err, t.word .errInfo, t.word .status])
    (exec (.wrCmd 0x00000006#32) State.reset) = [0x00000004#32, 0x00000003#32, 0x0000000A#32] := by decide +kernel
/-- 40_sequencer.md R120: an illegal word while BUSY = 1 raises only CMD_BUSY, DONE unchanged. -/
theorem test_cmd_busy : nextD [] (fun t => [t.word .err, t.word .errInfo, t.word .status])
    (exec (.wrCmd 0x00000106#32) (busyState 0x00#8)) = [0x00000002#32, 0x00000002#32, 0x00000009#32] := by decide +kernel
/-- 40_sequencer.md R122, example. -/
theorem test_nop : nextD [] (fun t => [t.word .status, t.word .err, t.word .hopCount]) (step (busyState 0x00#8)) =
    [0x00000002#32, 0#32, 0#32] := by decide +kernel
/-- 40_sequencer.md R123: the dynamic state is zeroed, the result bank is kept. -/
theorem test_clear_state : nextD [] (fun t => [t.word .histFill, t.word .histWptr, t.word (.res .seq)])
    (exec .clearState { State.reset with
      dyn := { Dyn.reset with histFill := 384, histWptr := 384 }, res := { Results.reset with seq := 3#32 } }) =
    [0#32, 0#32, 3#32] := by decide +kernel
/-- 40_sequencer.md R124, example. -/
theorem test_soft_reset : nextD [] (fun t => [t.word .ctrl, t.word .status, t.word (.cfg (.scalar .actThresh)),
      t.word (.cfg (.bin .freq 0))]) (exec .softReset enabledState) =
    [0#32, 0x00000002#32, 0x3BA3D70A#32, 0#32] := by decide +kernel
/-- 40_sequencer.md R125, example. -/
theorem test_skip_hop : nextD [] (fun t => [t.word .elapsedPend, t.word .droppedCount, t.word .stageCount])
    (exec .skipHop { stagedState with droppedCount := 9#32, dyn := { stagedState.dyn with elapsedPend := 7 } }) =
    [7#32, 10#32, 0#32] := by decide +kernel
/-- 40_sequencer.md R126, 60_exceptions.md R175: a HOP with 127 samples only raises STAGE_UNDERRUN and keeps them. -/
theorem test_hop_underrun : nextD [] (fun t => [t.word .err, t.word .errInfo, t.word .stageCount, t.word .hopCount,
      t.word (.res .seq)]) (exec .hop { enabledState with dyn := { Dyn.reset with stageCount := 127 } }) =
    [0x00000008#32, 4#32, 127#32, 0#32, 0#32] := by decide +kernel
/-- 40_sequencer.md R126, example: the counters of the first hop, whatever the samples and the tables are. -/
theorem test_hop_first (s : State) (hs : s.dyn.stageCount.val = 128) (h0 : s.hopCount = 0#32) (h1 : s.res.seq = 0#32) :
    ∃ t, exec .hop s = .next t ∧ t.hopCount = 1#32 ∧ t.res.seq = 1#32 ∧ t.res.hopCount = 1#32 := by
  refine ⟨s.hop.complete, by simp [exec, execHop, hs], ?_, ?_, ?_⟩
  · simp [State.hop, State.countHop, wrapIncr, h0]
  · simp [State.hop, State.commit, State.published, wrapIncr, h1]
  · simp [State.hop, State.commit, State.published, State.countHop, wrapIncr, h0]
/-- 40_sequencer.md R127, example. -/
theorem test_enable_after_reset : nextD [] (fun t => [t.word .ctrl, t.word .err, t.word .errInfo, t.word .cfgFailAddr])
    (exec (.wrCtrl 0x00000001#32) State.reset) = [0#32, 0x00000040#32, 7#32, 0x00000800#32] := by decide +kernel
/-- 40_sequencer.md R127: mode bits changed and ENABLE cleared while enabled. -/
theorem test_ctrl_locked : nextD [] (fun t => [t.word .ctrl, t.word .err, t.word .errInfo])
    (exec (.wrCtrl 0x00000010#32) { enabledState with ctrl := 0x03#5 }) = [0x00000002#32, 0x00000020#32, 6#32] := by
  decide +kernel
/-- 40_sequencer.md R128, example. -/
theorem test_validate_bin_n : ({ okCfg with binN := okCfg.binN.set 5 0#32 }.validate.map CfgWord.offset) = some 0xB14 := by
  decide +kernel
/-- 40_sequencer.md R129, example. -/
theorem test_cfg_locked : nextD [] (fun t => [t.word (.cfg (.scalar .actThresh)), t.word .err])
    (exec (.wrCfg 0x0080#16 0x3C23D70A#32) enabledState) = [0x3BA3D70A#32, 0x00000020#32] := by decide +kernel
/-- 40_sequencer.md R130: NOV_INJECT is written while enabled. -/
theorem test_runtime : nextD [] (fun t => [t.word .novInject, t.word .err])
    (exec (.wrRuntime 0x0040#16 0x3F800000#32) enabledState) = [0x3F800000#32, 0#32] := by decide +kernel
/-- 40_sequencer.md R131, example. -/
theorem test_err_ack : nextD [] (fun t => [t.word .err, t.word .status &&& 0x8#32])
    (exec (.wrErr 0x00000004#32) { State.reset with err := 0x204#11 }) = [0x00000200#32, 0x8#32] := by decide +kernel
/-- 40_sequencer.md R131: a W1C write of DONE. -/
theorem test_status_ack : nextD [] (fun t => [t.word .status])
    (exec (.wrStatus 0x00000002#32) { State.reset with done := true, onsetEvt := true }) = [0x00000004#32] := by
  decide +kernel
/-- 40_sequencer.md R132, example. -/
theorem test_irq_en : nextD [] (fun t => [t.word .irqEn, t.word .status])
    (exec (.wrIrqEn 0xFFFFFFF9#32) { State.reset with done := true }) = [0x00000001#32, 0x00000082#32] := by decide +kernel
/-- 40_sequencer.md R133, example. -/
theorem test_other : nextD [] (fun t => [t.word .hopCount, t.word .err, t.word .errInfo])
    (exec (.wrOther .word 0x0048#16 5#32) State.reset) = [0#32, 0x00000100#32, 9#32] := by decide +kernel
/-- 40_sequencer.md R134, example, and an unmapped offset. -/
theorem test_rd : nextD 1#32 State.readData (exec (.rd .word 0x0000#16) State.reset) = 0x47464231#32 ∧
    nextD 1#32 State.readData (exec (.rd .word 0x69E4#16) State.reset) = 0#32 := by decide +kernel
/-- 41_capture.md R135, example. -/
theorem test_sample_in : nextD [] (fun t => [t.word (.work (.stage 0)), t.word .stageCount])
    (exec (.wrSampleIn 0x0001FFFF#32) enabledState) = [0xFFFFFFFF#32, 1#32] := by decide +kernel
/-- 41_capture.md R136, example. -/
theorem test_sample_pair : nextD [] (fun t => [t.word (.work (.stage 0)), t.word (.work (.stage 1)), t.word .stageCount])
    (exec (.wrSamplePair 0x80007FFF#32) enabledState) = [0x00007FFF#32, 0xFFFF8000#32, 2#32] := by decide +kernel
/-- 41_capture.md R138, example. -/
theorem test_history_value : (histValue (val 0#32) 16384).toBits = 0x3F000000#32 := by decide +kernel
/-- 40_sequencer.md R130, example: samples 12 and 13 under a DC offset of 12.5 are -1/65536 and 1/65536. -/
theorem test_history_dc : (histValue (val 0x41480000#32) 12).toBits = 0xB7800000#32 ∧
    (histValue (val 0x41480000#32) 13).toBits = 0x37800000#32 := by decide +kernel
/-- 41_capture.md R138: PUSH_CHUNK of a chunk of zeros advances the cursor and the fill count and empties the stage. -/
theorem test_push_chunk : nextD [] (fun t => [t.word .histWptr, t.word .histFill, t.word .stageCount])
    (exec .pushChunk { stagedState with dyn := { stagedState.dyn with histWptr := 1920, histFill := 2048 } }) =
    [0#32, 2048#32, 0#32] := by decide +kernel
/-- 42_goertzel.md R141 to R143 by hand: one sample 0.5, weight 1.0, cosine 1.0, sine 0: raw = 2 * 0.5 / 1. -/
theorem test_goertzel_one_sample :
    (binRaw { okCfg with binCos := okCfg.binCos.set 3 0x3F800000#32, winLut := okCfg.winLut.set 0 0x3F800000#32 }
      { Dyn.reset with hist := Dyn.reset.hist.set 2047 0x3F000000#32 } 3).toBits = 0x3F800000#32 := by decide +kernel
/-- 42_goertzel.md R141, R142 by hand: weights 1 and 1, samples 1 and 1, C = 0.5: s1 = 2, s2 = 1, re = 1.5, im = 0. -/
theorem test_goertzel_power :
    (filterPower (val 0x3F000000#32) (val 0#32) [val 0x3F800000#32, val 0x3F800000#32]).toBits = 0x40100000#32 := by
  decide +kernel
/-- 43_onset.md R156, example, first hop. -/
theorem test_onset_first : (fun t : State => [t.dyn.wBaseline, t.dyn.wNovelty, t.dyn.wXin, t.word (.work (.scalar .onset))])
    (State.onset { enabledState with ctrl := 0x11#5, novInject := 0x3F800000#32 }) =
    [0#32, 0x3F800000#32, 0x3F800000#32, 1#32] := by decide +kernel
/-- 43_onset.md R156, example, second hop: the first hop left 1.0 in NOV_HIST[0] and the cursor at 1. -/
theorem test_onset_second : (fun t : State => [t.dyn.wBaseline, t.dyn.wXin, t.word (.work (.scalar .onset))])
    (State.onset { enabledState with
      ctrl := 0x11#5, novInject := 0x3F800000#32
      dyn := { Dyn.reset with novHist := Dyn.reset.novHist.set 0 0x3F800000#32, novWptr := 1 } }) =
    [0x3D7EB852#32, 0x3F70147B#32, 1#32] := by decide +kernel
/-- 44_tempo.md R169, example: one oscillator's update from a clear with W_XIN = 1.0. -/
theorem test_tempo_lane : (fun l : OscLane => (l.re, l.raw, l.smooth, l.active))
    (oscLane Cfg.reset { Dyn.reset with wXin := 0x3F800000#32 } 7) =
    (0x3C23D70A#32, 0x3DA3D70A#32, 0x3B03126F#32, true) := by decide +kernel
/-- 44_tempo.md R169, corner case: with no tempo W_PHASE = +0 gives W_PHASE01 = 0.5; R167: PI_F folds to 0. -/
theorem test_tempo_phase01 : (phase01Of (val 0#32)).toBits = 0x3F000000#32 ∧
    (phase01Of (val 0x40490FDB#32)).toBits = 0#32 := by decide +kernel
/-- 45_commit.md R170, example: ONSET and TEMPO_VALID. -/
theorem test_commit : nextD [] (fun t => [t.word (.res .seq), t.word (.res .bpm), t.word (.res .flags), t.word .status])
    (exec .commit { enabledState with
      dyn := { Dyn.reset with wBpm := 0x42700000#32, wOnset := true, tempoValid := true } }) =
    [1#32, 0x42700000#32, 0x00000005#32, 0x00000046#32] := by decide +kernel

/-! ## Witnesses: a state and operands that meet each statement's hypotheses, clause by clause -/

theorem witness_DecodeEncodeRoundTrip : (Instr.wrRuntime 0x003C#16 0#32).WellFormed ∧
    (Instr.wrRuntime 0x0040#16 0#32).WellFormed ∧ (Instr.wrCfg 0x0080#16 0#32).WellFormed ∧
    (Instr.wrCfg 0x5FFC#16 0#32).WellFormed ∧ (Instr.wrOther .word 0x11E4#16 0#32).WellFormed ∧
    Instr.hop.WellFormed := by decide

theorem witness_DecodedBytesAreTheEncoding :
    decode [0x1C#8, 0x00#8, 0x01#8, 0x00#8, 0x00#8, 0x00#8, 0x00#8, 0x00#8] = .ok (.rd .word 0x001C#16) := by decide

theorem witness_ReservedCommandWordsAreIllegal : State.reset.busy = false ∧
    (0x09#8 < (0x0000000A#32).extractLsb' 0 8) ∧ (0x00000106#32).extractLsb' 8 24 ≠ 0#24 := by decide

theorem witness_StepRunsTheDecodedInstruction :
    (busyState 0x06#8).fetch = .engine (busyState 0x06#8).pendingBytes (busyState 0x06#8) ∧
    decode (busyState 0x06#8).pendingBytes = .ok .hop ∧
    ({ State.reset with port := [0x0000001100000014#64] }).fetch = .host (accessBytes 0x0000001100000014#64) State.reset ∧
    decode (accessBytes 0x0000001100000014#64) = .ok (.wrCtrl 0x00000011#32) ∧
    State.reset.fetch = .idle := ⟨rfl, by decide, rfl, by decide, rfl⟩

theorem witness_FetchFollowsTheOrderOfMoves :
    (State.reset.busy = false ∧ State.reset.port = []) ∧
    (∃ s : State, s.busy = false ∧ s.port = [0#64]) ∧
    ((busyState 0x00#8).busy = true ∧ (busyState 0x00#8).port = [] ∧ (busyState 0x00#8).turns = []) ∧
    (∃ s : State, s.busy = true ∧ s.port ≠ [] ∧ s.turns = [.engine]) ∧
    (∃ s : State, s.busy = true ∧ s.port = [0#64] ∧ s.turns = [.host]) :=
  ⟨⟨rfl, rfl⟩, ⟨{ State.reset with port := [0#64] }, rfl, rfl⟩, ⟨rfl, rfl, rfl⟩,
    ⟨{ busyState 0x00#8 with port := [0#64], turns := [.engine] }, rfl, List.cons_ne_nil _ _, rfl⟩,
    ⟨{ busyState 0x00#8 with port := [0#64], turns := [.host] }, rfl, rfl, rfl⟩⟩

/-- A STATUS read that the host makes while a HOP runs. -/
theorem witness_AcceptedCommandCompletes : ∃ s : State, s.LatchLegal ∧ s.busy = true ∧
    (∀ r ∈ s.port, ∃ i, decode (accessBytes r) = .ok i) ∧ s.turns = [.host] ∧ s.port = [0x000000000001001C#64] := by
  refine ⟨{ enabledState with busy := true, pendingCmd := 0x06#8, turns := [.host], port := [0x000000000001001C#64] },
    ?_, rfl, ?_, rfl, rfl⟩
  · intro _; decide
  · intro r hr
    refine ⟨.rd .word 0x001C#16, ?_⟩
    rw [List.mem_singleton.mp hr]
    decide

theorem witness_ControlWrite :
    (busyState 0x00#8).busy = true ∧
    (enabledState.busy = false ∧ enabledState.enabled = true) ∧
    (State.reset.busy = false ∧ State.reset.enabled = false ∧ (0x1E#32).getLsbD 0 = false) ∧
    (∃ s : State, s.busy = false ∧ s.enabled = false ∧ (0x01#32).getLsbD 0 = true ∧ s.cfg.validate = none) ∧
    (∃ s : State, s.busy = false ∧ s.enabled = false ∧ s.cfg.validate = some (.bin .freq 0)) := by
  refine ⟨rfl, ⟨rfl, by decide⟩, ⟨rfl, by decide, by decide⟩, ?_, ?_⟩
  · exact ⟨{ State.reset with cfg := okCfg }, rfl, rfl, rfl, okCfg_validate⟩
  · exact ⟨State.reset, rfl, rfl, by decide +kernel⟩

theorem witness_EnableCheck : Cfg.reset.validate = some (.bin .freq 0) ∧ okCfg.validate = none :=
  ⟨by decide +kernel, okCfg_validate⟩

theorem witness_ConfigurationWrite :
    cfgAt (0x0080#16).toNat = some (.scalar .actThresh) ∧ cfgAt (0x00D8#16).toNat = some (.scalar .novBaseLen) ∧
    cfgAt (0x0800#16).toNat = some (.bin .freq 0) ∧ cfgAt (0x17E0#16).toNat = some (.osc .sin 120) ∧
    cfgAt (0x5FFC#16).toNat = some (.win 4095) ∧
    (busyState 0x00#8).busy = true ∧ (enabledState.busy = false ∧ enabledState.enabled = true) ∧
    (State.reset.busy = false ∧ State.reset.enabled = false) := by decide +kernel

theorem witness_OtherWritesOnlyRaise : (Instr.wrOther .word 0xA1FC#16 1#32).WellFormed ∧
    (Instr.wrOther .word 0x0044#16 1#32).WellFormed ∧ (Instr.wrOther .byte 0x0018#16 1#32).WellFormed := by decide

theorem witness_ReadReturnsTheWord :
    slotAt 0xA200#16 = none ∧ (0x0001#16).toNat % 4 ≠ 0 ∧ slotAt 0x6000#16 = some (.work (.bin .raw 0)) ∧
    slotAt 0xA1FC#16 = some (.work (.stage 127)) ∧ slotAt 0x0000#16 = some .id ∧
    slotAt 0x04FC#16 = some (.resBin .slow 63) ∧ (busyState 0x00#8).busy = true ∧ State.reset.busy = false := by decide +kernel

/-- A misaligned offset, and the first and last offset of a reserved range of each kind. -/
theorem witness_AddressMapIsExact : (0x0002#16).toNat % 4 ≠ 0 ∧
    (0x0064 ≤ (0x0064#16).toNat ∧ (0x007C#16).toNat ≤ 0x007C) ∧
    (0x69E4 ≤ (0x69E4#16).toNat ∧ (0x69FC#16).toNat ≤ 0x69FC) ∧
    (0xA200 ≤ (0xA200#16).toNat ∧ (0xFFFC#16).toNat ≤ 0xFFFC) := by decide

/-- Words at the two ends of the map and beside its holes, with the offsets 10_state.md R25 gives them. -/
theorem test_address_map : [0x0000#16, 0x0060#16, 0x0064#16, 0x00D8#16, 0x0134#16, 0x04FC#16, 0x0500#16, 0x17E0#16,
      0x17E4#16, 0x650C#16, 0x6510#16, 0x6644#16, 0x7800#16, 0xA1FC#16, 0xA200#16].map slotAt =
    [some .id, some .novWptr, none, some (.cfg (.scalar .novBaseLen)), some (.res .flux), some (.resBin .slow 63), none,
     some (.cfg (.osc .sin 120)), none, some (.work (.zone 3)), none, some (.work (.scalar .nfMask1)), none,
     some (.work (.stage 127)), none] := by decide +kernel

theorem witness_LittleEndianBytes : (0xFFFC#16).toNat % 4 = 0 ∧ (0x0000#16).toNat % 4 = 0 := by decide

theorem witness_SampleWrite :
    (busyState 0x00#8).busy = true ∧ (State.reset.busy = false ∧ State.reset.enabled = false) ∧
    (stagedState.busy = false ∧ stagedState.enabled = true ∧ stagedState.dyn.stageCount.val = 128) ∧
    (∃ s : State, s.busy = false ∧ s.enabled = true ∧ s.dyn.stageCount.val = 127) ∧
    (enabledState.busy = false ∧ enabledState.enabled = true ∧ enabledState.dyn.stageCount.val < 128) :=
  ⟨rfl, ⟨rfl, rfl⟩, ⟨rfl, rfl, rfl⟩, ⟨{ enabledState with dyn := { Dyn.reset with stageCount := 127 } }, rfl, rfl, rfl⟩,
    ⟨rfl, rfl, by decide⟩⟩

/-- The clauses of SampleWrite and SamplePairIsTwoSamples share their hypotheses. -/
theorem witness_SamplePairIsTwoSamples :
    (busyState 0x00#8).busy = true ∧ (State.reset.busy = false ∧ State.reset.enabled = false) ∧
    (stagedState.busy = false ∧ stagedState.enabled = true ∧ stagedState.dyn.stageCount.val = 128) ∧
    (∃ s : State, s.busy = false ∧ s.enabled = true ∧ s.dyn.stageCount.val = 127) :=
  ⟨rfl, ⟨rfl, rfl⟩, ⟨rfl, rfl, rfl⟩, ⟨{ enabledState with dyn := { Dyn.reset with stageCount := 127 } }, rfl, rfl, rfl⟩⟩

/-- A chunk staged at the last cursor before the wrap: sample 0 goes to entry 1920, sample 127 to entry 2047; and with
127 samples there is no chunk. -/
theorem witness_PushChunkMovesTheChunk :
    stagedState.dyn.stageCount.val = 128 ∧ enabledState.dyn.stageCount.val ≠ 128 ∧
    (∃ s : State, s.dyn.stageCount.val = 128 ∧ (1920 : Fin 2048).val = (s.dyn.histWptr.val + (0 : Fin 128).val) % 2048 ∧
      (2047 : Fin 2048).val = (s.dyn.histWptr.val + (127 : Fin 128).val) % 2048 ∧
      ∀ i : Fin 128, (0 : Fin 2048).val ≠ (s.dyn.histWptr.val + i.val) % 2048) :=
  ⟨rfl, by decide, { stagedState with dyn := { stagedState.dyn with histWptr := 1920 } }, rfl, rfl, rfl, by
    intro i; have := i.isLt; show 0 ≠ (1920 + i.val) % 2048; omega⟩

theorem witness_HistoryOrder : stagedState.dyn.stageCount.val = 128 ∧
    ∃ t, exec .pushChunk stagedState = .next t ∧
      (127 : Fin 2048).val = (t.dyn.histWptr.val + 2048 - 1) % 2048 ∧
      (0 : Fin 2048).val = (t.dyn.histWptr.val + 2048 - 128) % 2048 ∧
      (2047 : Fin 2048).val = (t.dyn.histWptr.val + 2048 - 129) % 2048 ∧
      (128 : Fin 2048).val = (t.dyn.histWptr.val + 2048 - 2048) % 2048 := by
  refine ⟨rfl, stagedState.pushChunk.complete, rfl, ?_⟩
  have h : stagedState.pushChunk.complete.dyn.histWptr.val = 128 := by decide +kernel
  rw [h]
  decide

/-- One sample and one round of the recurrence. -/
theorem witness_RawMagnitudeFollowsTheRecurrence : ∃ (x : Nat → F32) (h : Nat → Fin 2048) (w : Nat → Fin 4096),
    okCfg.binN[(0 : Fin 64)].toNat = 1 ∧ (h 0).val = (((Dyn.reset.histWptr.val : Int) - 1 + 0) % 2048).toNat ∧
    (w 0).val = 0 * 4096 / 1 ∧ x 0 = F32.zero ∧ x 1 = F32.zero ∧
    x 2 = (((val Dyn.reset.hist[h 0]).mul (val okCfg.winLut[w 0])).add
      ((F32.two.mul (val okCfg.binCos[(0 : Fin 64)])).mul (x 1))).sub (x 0) :=
  ⟨fun i => if i = 2 then (((val Dyn.reset.hist[(2047 : Fin 2048)]).mul (val okCfg.winLut[(0 : Fin 4096)])).add
      ((F32.two.mul (val okCfg.binCos[(0 : Fin 64)])).mul F32.zero)).sub F32.zero else F32.zero,
    fun _ => 2047, fun _ => 0, by decide +kernel, rfl, rfl, rfl, rfl, rfl⟩

theorem witness_GoertzelNormalises : enabledState.ctrl.getLsbD 1 = false ∧
    ({ enabledState with ctrl := 0x03#5 } : State).ctrl.getLsbD 1 = true := by decide

/-- Two states that differ in another bin's coefficient. -/
theorem witness_BinsAreIndependentLanes : ∃ s s' t t' : State, s ≠ s' ∧ s.dyn.hist = s'.dyn.hist ∧
    s.dyn.histWptr = s'.dyn.histWptr ∧ s.cfg.winLut = s'.cfg.winLut ∧
    s.cfg.binCos[(0 : Fin 64)] = s'.cfg.binCos[(0 : Fin 64)] ∧ s.cfg.binSin[(0 : Fin 64)] = s'.cfg.binSin[(0 : Fin 64)] ∧
    s.cfg.binN[(0 : Fin 64)] = s'.cfg.binN[(0 : Fin 64)] ∧ s.cfg.binGain[(0 : Fin 64)] = s'.cfg.binGain[(0 : Fin 64)] ∧
    exec .runGoertzel s = .next t ∧ exec .runGoertzel s' = .next t' := by
  refine ⟨enabledState, { enabledState with cfg := { okCfg with binCos := okCfg.binCos.set 1 0x3F800000#32 } }, _, _, ?_,
    rfl, rfl, rfl, by decide +kernel, rfl, rfl, rfl, rfl, rfl⟩
  intro h
  have : enabledState.cfg.binCos[1] = (okCfg.binCos.set 1 0x3F800000#32)[1] := by
    have h' := congrArg (fun s : State => s.cfg.binCos[1]) h
    exact h'
  revert this
  decide +kernel

theorem witness_SilenceGivesZeroMagnitudes : ∃ s : State, s.cfg.validate = none ∧ s.ctrl.getLsbD 1 = true ∧
    (∀ k : Fin 64, (F32.two.mul (val s.cfg.binCos[k])).finite = true) ∧ (∀ i : Fin 2048, s.dyn.hist[i] = 0#32) ∧
    (∀ z : Fin 4, isNonneg s.dyn.zoneLevel[z] = true) := by
  refine ⟨{ enabledState with ctrl := 0x03#5 }, okCfg_validate, by decide, by decide +kernel, ?_, by decide +kernel⟩
  intro i
  simp [enabledState, State.reset, Dyn.reset]

theorem witness_OnsetFlux : ({ enabledState with ctrl := 0x11#5 } : State).ctrl.getLsbD 4 = true ∧
    (enabledState.ctrl.getLsbD 4 = false ∧ enabledState.ctrl.getLsbD 2 = false) ∧
    (({ enabledState with ctrl := 0x05#5 } : State).ctrl.getLsbD 4 = false ∧
      ({ enabledState with ctrl := 0x05#5 } : State).ctrl.getLsbD 2 = true) := by decide

/-- The decayed history as a sequence of distances before the cursor. -/
theorem witness_OnsetHistory : ∃ e : Nat → F32, ∀ (j : Nat) (a : Fin 128),
    a.val = (((enabledState.dyn.novWptr.val : Int) - j) % 128).toNat →
    e j = val ((val enabledState.dyn.novHist[a]).mul (val enabledState.cfg.novDecay)).toBits := by
  refine ⟨fun j => val ((val (enabledState.dyn.novHist[(((enabledState.dyn.novWptr.val : Int) - j) % 128).toNat]'(by
    omega))).mul (val enabledState.cfg.novDecay)).toBits, ?_⟩
  intro j a ha
  simp only [Fin.getElem_fin, ha]

/-- Oscillator 120 with a finite and with an infinite tempo input. -/
theorem witness_OscillatorUpdate :
    (fun (s : State) (m : Fin 121) => (((val s.cfg.resDecay).mul (((val s.cfg.oscCos[m]).mul (val s.dyn.oscRe[m])).sub
      ((val s.cfg.oscSin[m]).mul (val s.dyn.oscIm[m])))).add ((val s.cfg.resIn).mul (val s.dyn.wXin))).finite)
      State.reset 120 = true ∧
    (fun (s : State) (m : Fin 121) => (((val s.cfg.resDecay).mul (((val s.cfg.oscCos[m]).mul (val s.dyn.oscRe[m])).sub
      ((val s.cfg.oscSin[m]).mul (val s.dyn.oscIm[m])))).add ((val s.cfg.resIn).mul (val s.dyn.wXin))).finite)
      { State.reset with dyn := { Dyn.reset with wXin := 0x7F800000#32 } } 120 = false := by decide +kernel

theorem witness_ArctangentProperties : (F32.fin true 0).finite = true ∧ (F32.fin false 1).finite = true ∧ 0 < 1 := by decide

/-- Reset tables, no oscillator active (ACT_THRESH a NaN), and CONF_EPS and BPM_MIN as given: the power sum is +0 and
every BPM is 0. -/
def tempoState (confEps bpmMin : Word) (valid : Bool) : State :=
  { State.reset with
    cfg := { Cfg.reset with actThresh := 0x7FC00000#32, confEps := confEps, bpmMin := bpmMin }
    dyn := { Dyn.reset with tempoValid := valid } }

theorem tempoState_power (confEps bpmMin : Word) (valid : Bool) :
    (tempoState confEps bpmMin valid).tempo.dyn.wPowerSum = 0#32 := by
  have key : ∀ s : State, s.tempo.dyn.wPowerSum = (powerSumOf s.tempoOscillators.dyn).toBits := by
    intro s
    rw [State.tempo, State.tempoLock_dyn]
    show ((s.tempoOscillators.tempoPower.tempoConfidence.tempoContrib.tempoBpm).tempoPhase _).dyn.wPowerSum = _
    rw [State.tempoPhase_dyn, State.tempoBpm_dyn, State.tempoContrib_dyn, State.tempoConfidence_dyn]
    simp only [State.tempoPower]
  have hn : val 0x7FC00000#32 = .nan := by decide +kernel
  have inactive : ∀ m : Fin 121, (tempoState confEps bpmMin valid).tempoOscillators.dyn.oscActive[m] = false := by
    intro m
    have gt_nan : ∀ x : F32, x.gt .nan = false := fun _ => rfl
    simp only [State.tempoOscillators, State.numfaults_dyn, Fin.getElem_fin, Vector.getElem_ofFn]
    unfold oscLane
    simp only
    split <;> unfold oscActivity <;> simp only [tempoState, hn, gt_nan] <;> split <;> rfl
  rw [key]
  unfold powerSumOf
  simp only [inactive, Bool.false_eq_true, if_false]
  have fold_const : ∀ (l : List (Fin 121)) (x : F32), l.foldl (fun ps _ => ps) x = x := by
    intro l x; induction l <;> simp_all
  rw [fold_const]
  decide +kernel

theorem tempoState_bpm (confEps bpmMin : Word) (valid : Bool) (m : Fin 121) :
    (tempoState confEps bpmMin valid).cfg.oscBpm[m] = 0#32 := by
  simp [tempoState, State.reset, Cfg.reset]

/-- With CONF_EPS = -1 the state is powered: BPM_MIN = 0 accepts the winner's BPM of 0 and BPM_MIN = 60 rejects it; with
CONF_EPS = 0 it is not powered. -/
theorem witness_TempoEstimate :
    (∃ s : State, (val s.tempo.dyn.wPowerSum).gt (val s.cfg.confEps) = true ∧
      (val s.cfg.bpmMin).le (val s.cfg.oscBpm[s.tempo.dyn.wWinner]) = true ∧
      (val s.cfg.oscBpm[s.tempo.dyn.wWinner]).le (val s.cfg.bpmMax) = true) ∧
    (∃ s : State, (val s.tempo.dyn.wPowerSum).gt (val s.cfg.confEps) = true ∧
      (val s.cfg.bpmMin).le (val s.cfg.oscBpm[s.tempo.dyn.wWinner]) = false) ∧
    (∃ s : State, (val s.tempo.dyn.wPowerSum).gt (val s.cfg.confEps) = false) := by
  refine ⟨⟨tempoState 0xBF800000#32 0#32 false, ?_, ?_, ?_⟩, ⟨tempoState 0xBF800000#32 0x42700000#32 false, ?_, ?_⟩,
    ⟨tempoState 0#32 0#32 false, ?_⟩⟩
  · rw [tempoState_power]; decide +kernel
  · rw [tempoState_bpm]; decide +kernel
  · rw [tempoState_bpm]; decide +kernel
  · rw [tempoState_power]; decide +kernel
  · rw [tempoState_bpm]; decide +kernel
  · rw [tempoState_power]; decide +kernel

/-- RUN_TEMPO never drops a valid tempo, and takes none where the power sum is not above CONF_EPS. -/
theorem tempo_valid (s : State) : (s.dyn.tempoValid = true → s.tempo.dyn.tempoValid = true) ∧
    (val s.cfg.confEps = .nan → s.dyn.tempoValid = false → s.tempo.dyn.tempoValid = false) := by
  have key : s.tempo.dyn.tempoValid =
      s.tempoOscillators.tempoPower.tempoConfidence.tempoContrib.tempoBpm.dyn.tempoValid := by
    rw [State.tempo, State.tempoLock_dyn]
    show ((s.tempoOscillators.tempoPower.tempoConfidence.tempoContrib.tempoBpm).tempoPhase _).dyn.tempoValid = _
    rw [State.tempoPhase_dyn]
  have before : s.tempoOscillators.tempoPower.tempoConfidence.tempoContrib.dyn.tempoValid = s.dyn.tempoValid := by
    rw [State.tempoContrib_dyn, State.tempoConfidence_dyn, State.tempoPower_dyn, State.tempoOscillators_dyn]
  have conf : s.tempoOscillators.tempoPower.tempoConfidence.tempoContrib.cfg = s.cfg := by simp
  rw [key]
  generalize s.tempoOscillators.tempoPower.tempoConfidence.tempoContrib = t at before conf
  rw [← before, ← conf]
  unfold State.tempoBpm powered
  constructor
  · intro h
    split
    · split <;> simp [h]
    · exact h
  · intro hn h
    rw [hn, if_neg (by intro h; cases h)]
    exact h

theorem witness_GlobalPhaseStep : (∃ s t : State, exec .runTempo s = .next t ∧ t.dyn.tempoValid = true) ∧
    (∃ s t : State, exec .runTempo s = .next t ∧ t.dyn.tempoValid = false) := by
  have next : ∀ s : State, exec .runTempo s = .next s.tempo.complete := fun _ => rfl
  refine ⟨⟨tempoState 0#32 0#32 true, _, next _, ?_⟩, ⟨tempoState 0x7FC00000#32 0#32 false, _, next _, ?_⟩⟩
  · rw [State.complete_dyn]
    exact (tempo_valid _).1 rfl
  · rw [State.complete_dyn]
    exact (tempo_valid _).2 (by decide +kernel) rfl

/-- Every smoothed magnitude is 0 times INACT_DECAY, so none is a NaN. -/
theorem witness_PowerSumAndWinner : ∃ s t : State, exec .runTempo s = .next t ∧
    ∀ m : Fin 121, (val t.dyn.oscSmooth[m]).ordered = true := by
  refine ⟨State.reset, _, rfl, ?_⟩
  intro m
  have key : ∀ s : State, s.tempo.dyn.oscSmooth = s.tempoOscillators.dyn.oscSmooth := by
    intro s
    rw [State.tempo, State.tempoLock_dyn]
    show ((s.tempoOscillators.tempoPower.tempoConfidence.tempoContrib.tempoBpm).tempoPhase _).dyn.oscSmooth = _
    rw [State.tempoPhase_dyn, State.tempoBpm_dyn, State.tempoContrib_dyn, State.tempoConfidence_dyn, State.tempoPower_dyn]
  have stored : ∀ x : F32, x.Rep → x.finite = true → (val x.toBits).ordered = true := by
    intro x hx hf
    unfold val
    rw [F32.ofBits_toBits hx]
    cases x with
    | nan => cases hf
    | inf s => rfl
    | fin s n => rfl
  have rep : ∀ (c : Cfg) (b : Bool) (x y : F32), (smoothedOf c b x y).Rep := by
    intro c b x y
    unfold smoothedOf
    split
    · exact F32.rep_add _ _
    · exact F32.rep_mul _ _
  rw [State.complete_dyn, key]
  simp only [State.tempoOscillators, State.numfaults_dyn, Fin.getElem_fin, Vector.getElem_ofFn]
  have lane : ∀ (c : Cfg) (d : Dyn) (m : Fin 121), (val d.oscSmooth[m]).ordered = true →
      (val (oscLane c d m).smooth).ordered = true := by
    intro c d m h
    unfold oscLane
    simp only
    split <;> unfold oscActivity <;> simp only <;> split
    · exact stored _ (rep ..) ‹_›
    · exact h
    · exact stored _ (rep ..) ‹_›
    · exact h
  apply lane
  simp only [State.reset, Dyn.reset, Fin.getElem_fin, Vector.getElem_replicate]
  decide +kernel

theorem witness_HopRunsOrUnderruns : enabledState.dyn.stageCount.val ≠ 128 ∧ stagedState.dyn.stageCount.val = 128 := by
  decide

theorem witness_HopIsTheFiveCommands : ∃ t1 t2 t3 t4 t5 t : State, stagedState.dyn.stageCount.val = 128 ∧
    exec .pushChunk stagedState = .next t1 ∧ exec .runGoertzel t1 = .next t2 ∧ exec .runOnset t2 = .next t3 ∧
    exec .runTempo t3 = .next t4 ∧ exec .commit t4 = .next t5 ∧ exec .hop stagedState = .next t :=
  ⟨_, _, _, _, _, _, rfl, rfl, rfl, rfl, rfl, rfl, rfl⟩

/-- 1 + 1 = 2, 1 - 1 = 0, 1 * 1 = 1 and 1 / 1 = 1 against the pattern of the largest finite value; 2^24 + 1 is as near to
2^24 as to 2^24 + 2; sqrt 2 against 1 and 2; and -1 is below zero. -/
theorem witness_ArithmeticRoundsToNearest :
    ((val 0x3F800000#32).finite = true ∧ (val 0x40000000#32).finite = true ∧ (val 0x7F7FFFFF#32).finite = true) ∧
    0x40000000#32 = ((val 0x3F800000#32).add (val 0x3F800000#32)).toBits ∧
    0x00000000#32 = ((val 0x3F800000#32).sub (val 0x3F800000#32)).toBits ∧
    0x3F800000#32 = ((val 0x3F800000#32).mul (val 0x3F800000#32)).toBits ∧
    (0x3F800000#32 = ((val 0x3F800000#32).div (val 0x3F800000#32)).toBits ∧ (val 0x3F800000#32).rank ≠ 0) ∧
    (0x4B800000#32 = ((val 0x4B800000#32).add (val 0x3F800000#32)).toBits ∧
      (val 0x4B800001#32).rank - ((val 0x4B800000#32).rank + (val 0x3F800000#32).rank) =
        (val 0x4B800000#32).rank + (val 0x3F800000#32).rank - (val 0x4B800000#32).rank) ∧
    (0 ≤ (val 0x40000000#32).rank ∧ 0x3FB504F3#32 = (val 0x40000000#32).sqrt.toBits ∧
      (val 0x3F800000#32).rank < (val 0x3FB504F3#32).rank ∧ (val 0x3FB504F3#32).rank < (val 0x40000000#32).rank) ∧
    ((val 0xBF800000#32).finite = true ∧ (val 0xBF800000#32).rank < 0) := by
  decide +kernel

/-- The enabled state with a COMMIT in the latch meets every invariant and steps. -/
def committingState : State := { enabledState with busy := true, pendingCmd := 0x05#8 }

theorem committing_step : step committingState = .next committingState.commit.complete := rfl

theorem witness_StepKeepsTheControlInvariants : step committingState = .next committingState.commit.complete ∧
    committingState.LatchLegal ∧ committingState.ConfigChecked ∧ committingState.CodesLegal :=
  ⟨committing_step, fun _ => by decide, fun _ => ⟨okCfg_validate, rfl⟩, by decide, fun _ => rfl⟩

theorem witness_StepKeepsTheBuffersClean : step committingState = .next committingState.commit.complete ∧
    committingState.dyn.StageClean ∧ committingState.dyn.HistClean := by
  refine ⟨committing_step, ⟨?_, ?_⟩, by decide, by decide, fun _ => ⟨rfl, ?_⟩⟩
  · intro i _; simp [committingState, enabledState, State.reset, Dyn.reset]
  · intro i; simp [committingState, enabledState, State.reset, Dyn.reset, sext16, lowSample]
  · intro i _; simp [committingState, enabledState, State.reset, Dyn.reset]

theorem witness_StepKeepsTheNumbersBounded : step committingState = .next committingState.commit.complete ∧
    committingState.LatchLegal ∧ committingState.ConfigChecked ∧ committingState.NumbersBounded := by
  have z1 : isNonneg 0#32 = true := by decide +kernel
  have z2 : inUnit 0#32 = true := by decide +kernel
  have z3 : isFinite 0#32 = true := by decide +kernel
  have z4 : legalPhase 0#32 = true := by decide +kernel
  have z5 : inHalfOpenUnit 0#32 = true := by decide +kernel
  have z6 : notNaN 0#32 = true := by decide +kernel
  refine ⟨committing_step, fun _ => by decide, fun _ => ⟨okCfg_validate, rfl⟩, ⟨?_, ?_⟩, ⟨z1, z3, z3, z3, ?_⟩,
    ⟨?_, z2, z3, z4, z5, z6⟩, ?_, z3, z3, z5, z2, z4, z3, z6⟩
  all_goals
    intro k
    simp only [committingState, enabledState, State.reset, Dyn.reset, Results.reset, Fin.getElem_fin,
      Vector.getElem_replicate, z1, z2, z3, z4, and_self]

theorem witness_ConfigurationIsLockedWhileEnabled :
    (∃ s t : State, step s = .next t ∧ t.cfg ≠ s.cfg ∧ s.busy = false) ∧
    (∃ s t : State, step s = .next t ∧ t.cfg ≠ s.cfg ∧ s.enabled = true ∧ s.pendingCmd = 0x09#8) := by
  refine ⟨⟨{ State.reset with port := [0x3F80000000000080#64] },
      { State.reset with cfg := { Cfg.reset with actThresh := 0x3F800000#32 } }, rfl, ?_, rfl⟩,
    ⟨{ enabledState with busy := true, pendingCmd := 0x09#8 }, _, rfl, ?_, by decide, rfl⟩⟩
  · intro h
    have := congrArg Cfg.actThresh h
    revert this
    decide +kernel
  · intro h
    have := congrArg (fun c : Cfg => c.binN[0]) h
    revert this
    decide +kernel

theorem witness_ResultBankChangesOnlyAtCommit :
    (∃ s t : State, step s = .next t ∧ t.res ≠ s.res ∧ s.pendingCmd = 0x05#8) ∧
    (∃ s t : State, step s = .next t ∧ t.res ≠ s.res ∧ s.pendingCmd = 0x09#8) := by
  refine ⟨⟨committingState, _, committing_step, ?_, rfl⟩,
    ⟨{ busyState 0x09#8 with res := { Results.reset with seq := 1#32 } }, _, rfl, ?_, rfl⟩⟩
  · intro h
    have := congrArg Results.seq h
    revert this
    decide +kernel
  · intro h
    have := congrArg Results.seq h
    revert this
    decide +kernel

theorem witness_AccessesWhileBusyChangeNoOperand : (busyState 0x06#8).busy = true ∧
    decode (accessBytes 0x0000000600000018#64) = .ok (.wrCmd 0x00000006#32) ∧
    decode (accessBytes 0x0000000100000014#64) = .ok (.wrCtrl 0x00000001#32) ∧
    decode (accessBytes 0x0000000100000034#64) = .ok (.wrSampleIn 0x00000001#32) ∧
    decode (accessBytes 0x0000000100000038#64) = .ok (.wrSamplePair 0x00000001#32) ∧
    decode (accessBytes 0x000000010000003C#64) = .ok (.wrRuntime 0x003C#16 0x00000001#32) ∧
    decode (accessBytes 0x0000000100000080#64) = .ok (.wrCfg 0x0080#16 0x00000001#32) ∧
    decode (accessBytes 0x0000000100000000#64) = .ok (.wrOther .word 0x0000#16 0x00000001#32) ∧
    decode (accessBytes 0x0000000000010000#64) = .ok (.rd .word 0x0000#16) := by decide +kernel

end Sys2Proof.Tests
end

section
/-! The statements about the step: each way `State.fetch` answers fixes what `step` runs. -/

namespace Sys2Proof.Machine

theorem step_of_fetch_idle {s : State} (hf : s.fetch = .idle) : step s = .next s := by
  unfold step; rw [hf]

theorem step_of_fetch_engine {s t : State} {bytes : List Byte} {i : Instr} (hf : s.fetch = .engine bytes t)
    (hd : decode bytes = .ok i) : step s = exec i t := by
  unfold step; rw [hf]; simp only [hd]

theorem step_of_fetch_host {s t : State} {bytes : List Byte} {i : Instr} (hf : s.fetch = .host bytes t)
    (hd : decode bytes = .ok i) : step s = exec i t := by
  unfold step; rw [hf]; simp only [hd]

/-- Settles O5: one clause per answer of the fetch. -/
theorem stepRunsTheDecodedInstruction : Obligations.StepRunsTheDecodedInstruction := by
  intro s i
  exact ⟨fun _ => step_of_fetch_engine, fun _ _ => step_of_fetch_host, step_of_fetch_idle⟩

end Sys2Proof.Machine
end

section
/-! The arctangent: every finite answer is a sign over a magnitude pattern at most that of PI_F, and magnitude patterns are
ordered as the magnitudes they hold. -/

namespace Sys2Proof.Machine

/-- The magnitude, in units of 2^-149, that the exponent and fraction fields `x` of a finite binary32 hold: what
`F32.ofBits` reads (`F32.ofBits_signed_finite`). -/
def F32.unitsOfFields (x : Nat) : Nat :=
  if x / 2 ^ 23 = 0 then x % 2 ^ 23 else (2 ^ 23 + x % 2 ^ 23) * 2 ^ (x / 2 ^ 23 - 1)

theorem F32.ofBits_signed_finite (neg : Bool) {x : Nat} (hx : x < 0x7F800000) :
    F32.ofBits (F32.signed neg x) = .fin neg (F32.unitsOfFields x) := by
  rw [F32.ofBits_signed neg (by omega), if_neg (by omega)]
  unfold F32.unitsOfFields
  split <;> rfl

/-- A larger pattern holds a larger magnitude: by the exponents where they differ, else by the fractions. -/
theorem F32.unitsOfFields_mono {x y : Nat} (h : x ≤ y) : F32.unitsOfFields x ≤ F32.unitsOfFields y := by
  have he : x / 2 ^ 23 ≤ y / 2 ^ 23 := Nat.div_le_div_right h
  have hx : x % 2 ^ 23 < 2 ^ 23 := Nat.mod_lt _ (by decide)
  unfold F32.unitsOfFields
  split
  · split
    · omega
    · calc x % 2 ^ 23 ≤ 2 ^ 23 + y % 2 ^ 23 := by omega
        _ ≤ _ := Nat.le_mul_of_pos_right _ (by positivity)
  · rw [if_neg (by omega)]
    rcases Nat.eq_or_lt_of_le he with heq | hlt
    · rw [heq]
      exact Nat.mul_le_mul_right _ (by omega)
    · calc (2 ^ 23 + x % 2 ^ 23) * 2 ^ (x / 2 ^ 23 - 1)
          ≤ 2 ^ 23 * 2 * 2 ^ (x / 2 ^ 23 - 1) := Nat.mul_le_mul_right _ (by omega)
        _ = 2 ^ 23 * 2 ^ (x / 2 ^ 23 - 1 + 1) := by rw [pow_succ]; ring
        _ ≤ 2 ^ 23 * 2 ^ (y / 2 ^ 23 - 1) := Nat.mul_le_mul_left _ (Nat.pow_le_pow_right (by decide) (by omega))
        _ ≤ _ := Nat.mul_le_mul_right _ (by omega)

theorem F32.pi_eq : F32.pi = .fin false (F32.unitsOfFields 0x40490FDB) :=
  F32.ofBits_signed_finite false (x := 0x40490FDB) (by decide)

theorem F32.withSign_ofBits (neg : Bool) {x : Nat} (hx : x < 0x7F800000) :
    (F32.ofBits (F32.signed false x)).withSign neg = F32.ofBits (F32.signed neg x) := by
  rw [F32.ofBits_signed_finite false hx, F32.ofBits_signed_finite neg hx]
  cases neg <;> rfl

/-- A magnitude pattern up to that of PI_F, under either sign, holds a finite value in [-PI_F, PI_F]. -/
theorem F32.within_pi (neg : Bool) {x : Nat} (hx : x ≤ 0x40490FDB) :
    (F32.ofBits (F32.signed neg x)).finite = true ∧ F32.negPi.le (F32.ofBits (F32.signed neg x)) = true ∧
      (F32.ofBits (F32.signed neg x)).le F32.pi = true := by
  have hle := F32.unitsOfFields_mono hx
  unfold F32.negPi
  rw [F32.pi_eq, F32.ofBits_signed_finite neg (by omega)]
  generalize F32.unitsOfFields 0x40490FDB = p at hle ⊢
  cases neg <;> simp [F32.finite, F32.le, F32.neg, F32.ordered, F32.rank, signedUnits] <;> omega

/-- On finite arguments the arctangent answers such a pattern: 0, PI_F or PI_F / 2 on the axes, the implementation's own
elsewhere (00_scope.md R18, notes/assumptions/7.md). -/
theorem F32.atan2_fin (sy sx : Bool) (m n : Nat) :
    ∃ neg x, x ≤ 0x40490FDB ∧ F32.atan2 (.fin sy m) (.fin sx n) = F32.ofBits (F32.signed neg x) := by
  cases m with
  | zero =>
    cases sx with
    | true => exact ⟨sy, 0x40490FDB, le_rfl, F32.withSign_ofBits sy (x := 0x40490FDB) (by decide)⟩
    | false => exact ⟨sy, 0, by decide, (F32.ofBits_signed_finite sy (x := 0) (by decide)).symm⟩
  | succ m =>
    cases n with
    | zero => exact ⟨sy, 0x3FC90FDB, by decide, F32.withSign_ofBits sy (x := 0x3FC90FDB) (by decide)⟩
    | succ n =>
      refine ⟨_, _, ?_, rfl⟩
      exact Nat.le_of_lt_succ (Fin.isLt _)

theorem F32.atan2_on_y_axis (sy sx : Bool) {n : Nat} (hn : 0 < n) :
    (F32.atan2 (.fin sy n) (.fin sx 0)).toBits = F32.signed sy 0x3FC90FDB := by
  obtain ⟨n, rfl⟩ := Nat.exists_eq_succ_of_ne_zero hn.ne'
  show ((F32.ofBits (F32.signed false 0x3FC90FDB)).withSign sy).toBits = _
  rw [F32.withSign_ofBits sy (by decide)]
  exact F32.toBits_ofBits (by rw [F32.ofBits_signed_finite sy (by decide)]; rfl)

/-- Settles O40: the range by `F32.atan2_fin`, the axes by the model's own cases. -/
theorem arctangentProperties : Obligations.ArctangentProperties := by
  refine ⟨?_, fun _ => ⟨rfl, rfl⟩, fun _ => ⟨rfl, rfl⟩, fun n z hn => ⟨?_, ?_⟩⟩
  · intro y x hy hx
    cases y with
    | nan => cases hy
    | inf => cases hy
    | fin sy m =>
      cases x with
      | nan => cases hx
      | inf => cases hx
      | fin sx n =>
        obtain ⟨neg, p, hp, heq⟩ := F32.atan2_fin sy sx m n
        rw [heq]
        exact F32.within_pi neg hp
  · exact F32.atan2_on_y_axis false z hn
  · exact F32.atan2_on_y_axis true z hn

end Sys2Proof.Machine
end

section
/-! What rounding to nearest, ties to even, answers (00_scope.md R16): sums, products and quotients and square roots share
one argument. Twice the exact magnitude is the place where a strictly increasing `f` reaches `T` (`f t = t * den` and
`T = 2 * num` for `num / den`; `f t = t ^ 2` and `T = 4 * m` for `sqrt m`), so that `f (a + b)` against `T` says which of
`a` and `b` is nearer. -/

namespace Sys2Proof.Machine

/-! ## The grid of the representable magnitudes -/

/-- The significand `q` fills its 24 bits at the place `2 ^ k`, or nothing lies below that place. -/
def FillsPlace (q k : Nat) : Prop := k = 0 ∨ 2 ^ 23 ≤ q

/-- No representable magnitude lies strictly between two neighbours of the grid of `2 ^ k`. -/
theorem RepUnits.le_or_ge {n q k : Nat} (hn : RepUnits n) (hq : FillsPlace q k) :
    n ≤ q * 2 ^ k ∨ (q + 1) * 2 ^ k ≤ n := by
  rcases Nat.le_total n (q * 2 ^ k) with hle | hge
  · exact .inl hle
  rcases Nat.eq_or_lt_of_le hge with heq | hlt
  · exact .inl heq.ge
  have hk : k ≤ dropped n := by
    rcases hq with rfl | hq
    · exact Nat.zero_le _
    · have hlog : 23 + k ≤ n.log2 := (Nat.le_log2 (by omega)).mpr
        (calc 2 ^ (23 + k) = 2 ^ 23 * 2 ^ k := pow_add ..
          _ ≤ q * 2 ^ k := Nat.mul_le_mul_right _ hq
          _ ≤ n := hge)
      unfold dropped
      omega
  obtain ⟨m, rfl⟩ := (pow_dvd_pow 2 hk).trans hn.2
  rw [Nat.mul_comm (2 ^ k)] at hlt ⊢
  exact .inr (Nat.mul_le_mul_right _ (Nat.lt_of_mul_lt_mul_right hlt))

/-- The pattern of an even significand is even, also where the significand has carried out of its 24 bits. -/
theorem fieldsOf_even {m k : Nat} (hm : m ≤ 2 ^ 24) (he : m % 2 = 0) (hk : FillsPlace m k) :
    F32.fieldsOf (m * 2 ^ k) % 2 = 0 := by
  rcases Nat.lt_or_ge m (2 ^ 23) with hlt | hge
  · obtain rfl : k = 0 := hk.resolve_right (by omega)
    rw [pow_zero, Nat.mul_one, F32.fieldsOf, if_pos hlt]
    exact he
  have hpos : m * 2 ^ k ≠ 0 := by positivity
  have hbig : ¬ m * 2 ^ k < 2 ^ 23 := Nat.not_lt.mpr (hge.trans (Nat.le_mul_of_pos_right _ (by positivity)))
  unfold F32.fieldsOf
  rw [if_neg hbig]
  rcases Nat.eq_or_lt_of_le hm with rfl | hlt
  · have hlog : (2 ^ 24 * 2 ^ k).log2 - 23 = k + 1 := by rw [← pow_add, Nat.log2_two_pow]; omega
    rw [hlog, show 2 ^ 24 * 2 ^ k = 2 ^ 23 * 2 ^ (k + 1) by ring, Nat.mul_div_cancel _ (by positivity)]
    omega
  · have hlog : (m * 2 ^ k).log2 = 23 + k := by
      rw [Nat.log2_eq_iff hpos]
      constructor
      · rw [pow_add]; exact Nat.mul_le_mul_right _ hge
      · rw [show 23 + k + 1 = 24 + k by omega, pow_add]
        exact Nat.mul_lt_mul_of_pos_right hlt (by positivity)
    rw [hlog, Nat.add_sub_cancel_left, Nat.mul_div_cancel _ (by positivity)]
    omega

/-! ## Nearest, ties to even -/

/-- `R` is nearest to the exact magnitude among the representable ones, and even where it ties with another. -/
def NearestUnits (f : Nat → Nat) (T R : Nat) : Prop :=
  ∀ n, RepUnits n →
    (R < n → T ≤ f (R + n)) ∧ (n < R → f (R + n) ≤ T) ∧
    (n ≠ R → f (R + n) = T → F32.fieldsOf R % 2 = 0)

/-- Rounding down is nearest up to the midpoint, where the significand has to be even. -/
theorem nearestUnits_floor {f : Nat → Nat} {T q k : Nat} (hf : StrictMono f) (hfill : FillsPlace q k) (hq : q < 2 ^ 24)
    (hlo : f (2 * (q * 2 ^ k)) ≤ T) (hmid : T ≤ f ((2 * q + 1) * 2 ^ k))
    (htie : T = f ((2 * q + 1) * 2 ^ k) → q % 2 = 0) : NearestUnits f T (q * 2 ^ k) := by
  intro n hn
  have above : q * 2 ^ k < n → f ((2 * q + 1) * 2 ^ k) ≤ f (q * 2 ^ k + n) := fun hlt => by
    have hge := (hn.le_or_ge hfill).resolve_left (by omega)
    refine hf.monotone ?_
    calc (2 * q + 1) * 2 ^ k = q * 2 ^ k + (q + 1) * 2 ^ k := by ring
      _ ≤ _ := Nat.add_le_add_left hge _
  have below : n < q * 2 ^ k → f (q * 2 ^ k + n) < T := fun hlt => (hf (by omega)).trans_le hlo
  refine ⟨fun hlt => hmid.trans (above hlt), fun hlt => (below hlt).le, fun hne heq => ?_⟩
  rcases Nat.lt_or_gt_of_ne hne with hlt | hgt
  · exact absurd heq (below hlt).ne
  · exact fieldsOf_even hq.le (htie (hmid.antisymm (heq ▸ above hgt))) hfill

/-- Rounding up is nearest from the midpoint on, where the significand has to be even. -/
theorem nearestUnits_ceil {f : Nat → Nat} {T q k : Nat} (hf : StrictMono f) (hfill : FillsPlace q k) (hq : q < 2 ^ 24)
    (hhi : T ≤ f (2 * ((q + 1) * 2 ^ k))) (hmid : f ((2 * q + 1) * 2 ^ k) ≤ T)
    (htie : T = f ((2 * q + 1) * 2 ^ k) → (q + 1) % 2 = 0) : NearestUnits f T ((q + 1) * 2 ^ k) := by
  intro n hn
  have above : (q + 1) * 2 ^ k < n → T < f ((q + 1) * 2 ^ k + n) := fun hlt => hhi.trans_lt (hf (by omega))
  have below : n < (q + 1) * 2 ^ k → f ((q + 1) * 2 ^ k + n) ≤ f ((2 * q + 1) * 2 ^ k) := fun hlt => by
    have hle := (hn.le_or_ge hfill).resolve_right (by omega)
    refine hf.monotone ?_
    calc (q + 1) * 2 ^ k + n ≤ (q + 1) * 2 ^ k + q * 2 ^ k := Nat.add_le_add_left hle _
      _ = _ := by ring
  refine ⟨fun hlt => (above hlt).le, fun hlt => (below hlt).trans hmid, fun hne heq => ?_⟩
  rcases Nat.lt_or_gt_of_ne hne with hlt | hgt
  · exact fieldsOf_even hq (htie ((heq ▸ below hlt).antisymm hmid)) (hfill.imp_right (by omega))
  · exact absurd heq (above hgt).ne'

/-- The choice `roundInt` and `roundRoot` make between two neighbours of the grid is the nearest one, ties to even. -/
theorem nearestUnits_of_mid {f : Nat → Nat} {T q k : Nat} (hf : StrictMono f) (hfill : FillsPlace q k) (hq : q < 2 ^ 24)
    (hlo : f (2 * (q * 2 ^ k)) ≤ T) (hhi : T ≤ f (2 * ((q + 1) * 2 ^ k))) :
    NearestUnits f T ((if T < f ((2 * q + 1) * 2 ^ k) then q
      else if f ((2 * q + 1) * 2 ^ k) < T then q + 1 else q + q % 2) * 2 ^ k) := by
  split
  next hlt => exact nearestUnits_floor hf hfill hq hlo hlt.le fun heq => absurd heq hlt.ne
  next hge =>
    split
    next hgt => exact nearestUnits_ceil hf hfill hq hhi hgt.le fun heq => absurd heq hgt.ne'
    next hle =>
      rcases Nat.mod_two_eq_zero_or_one q with he | ho
      · rw [he, Nat.add_zero]
        exact nearestUnits_floor hf hfill hq hlo (Nat.le_of_not_lt hle) fun _ => he
      · rw [ho]
        exact nearestUnits_ceil hf hfill hq hhi (Nat.le_of_not_lt hge) fun _ => by omega

/-! ## Ratios -/

/-- `roundInt` compares the exact value with the midpoint of its two neighbours. -/
theorem roundInt_eq_of_mid (num den : Nat) :
    roundInt num den = if 2 * num < (2 * (num / den) + 1) * den then num / den
      else if (2 * (num / den) + 1) * den < 2 * num then num / den + 1 else num / den + num / den % 2 := by
  have hdm : num / den * den + num % den = num := Nat.div_add_mod' num den
  have hmid : (2 * (num / den) + 1) * den = 2 * (num / den * den) + den := by ring
  have hdown : 2 * num < (2 * (num / den) + 1) * den ↔ 2 * (num % den) < den := by omega
  have hup : (2 * (num / den) + 1) * den < 2 * num ↔ den < 2 * (num % den) := by omega
  simp only [roundInt, hdown, hup]

theorem nearestUnits_roundRatio (num : Nat) {den : Nat} (hd : 0 < den) :
    NearestUnits (· * den) (2 * num) (roundRatio num den) := by
  have hqd : num / (den * 2 ^ dropped (num / den)) = num / den / 2 ^ dropped (num / den) :=
    (Nat.div_div_eq_div_mul ..).symm
  have hlt : num / (den * 2 ^ dropped (num / den)) < 2 ^ 24 := by
    rw [hqd, Nat.div_lt_iff_lt_mul (by positivity)]
    exact lt_dropped _
  have hfill : FillsPlace (num / (den * 2 ^ dropped (num / den))) (dropped (num / den)) := by
    rcases Nat.eq_zero_or_pos (dropped (num / den)) with hz | hp
    · exact .inl hz
    · refine .inr ?_
      rw [hqd, Nat.le_div_iff_mul_le (by positivity)]
      exact dropped_le hp
  unfold roundRatio
  simp only [roundInt_eq_of_mid]
  generalize dropped (num / den) = k at hlt hfill ⊢
  have hpos : 0 < den * 2 ^ k := by positivity
  have hle := Nat.div_mul_le_self num (den * 2 ^ k)
  have hge := (Nat.lt_mul_div_succ num hpos).le
  generalize num / (den * 2 ^ k) = q at hlt hfill hle hge ⊢
  have hmid : (2 * q + 1) * (den * 2 ^ k) = (2 * q + 1) * 2 ^ k * den := by ring
  rw [hmid]
  refine nearestUnits_of_mid (f := (· * den)) (fun _ _ hlt => Nat.mul_lt_mul_of_pos_right hlt hd) hfill hlt ?_ ?_
  · show 2 * (q * 2 ^ k) * den ≤ _
    linarith
  · show _ ≤ 2 * ((q + 1) * 2 ^ k) * den
    linarith

/-! ## Square roots -/

/-- `isqrtBelow` keeps `root² ≤ n < (root + 2 ^ bits)²` as it settles one bit after another. -/
theorem isqrtBelow_spec {n bits root : Nat} (hlo : root ^ 2 ≤ n) (hhi : n < (root + 2 ^ bits) ^ 2) :
    isqrtBelow n bits root ^ 2 ≤ n ∧ n < (isqrtBelow n bits root + 1) ^ 2 := by
  induction bits generalizing root with
  | zero => exact ⟨hlo, hhi⟩
  | succ b ih =>
    unfold isqrtBelow
    simp only [← pow_two]
    split
    next hle => exact ih hle (by rwa [Nat.add_assoc, ← Nat.two_mul, ← pow_succ'])
    next hgt => exact ih hlo (Nat.lt_of_not_le hgt)

/-- The place of the last bit kept of a square root: `roundRoot` takes the 24 bits above it. -/
theorem four_pow_bounds {m : Nat} (hm : 2 ^ 46 ≤ m) :
    4 ^ (m.log2 / 2 - 23) * (2 ^ 23) ^ 2 ≤ m ∧ m < 4 ^ (m.log2 / 2 - 23) * (2 ^ 24) ^ 2 := by
  have hlog : 46 ≤ m.log2 := (Nat.le_log2 (by omega)).mpr hm
  have e : (4 : Nat) = 2 ^ 2 := rfl
  rw [e, ← pow_mul, ← pow_mul, ← pow_mul, ← pow_add, ← pow_add]
  constructor
  · exact (Nat.pow_le_pow_right (by decide) (by omega)).trans (Nat.log2_self_le (by omega))
  · exact Nat.lt_log2_self.trans_le (Nat.pow_le_pow_right (by decide) (by omega))

theorem nearestUnits_roundRoot {m : Nat} (hm : 2 ^ 46 ≤ m) : NearestUnits (· ^ 2) (4 * m) (roundRoot m) := by
  obtain ⟨hlo, hhi⟩ := four_pow_bounds hm
  unfold roundRoot
  simp only
  generalize m.log2 / 2 - 23 = k at hlo hhi ⊢
  have h4 : 0 < 4 ^ k := by positivity
  obtain ⟨hq, hq'⟩ := isqrtBelow_spec (n := m / 4 ^ k) (bits := 24) (root := 0) (Nat.zero_le _)
    ((Nat.div_lt_iff_lt_mul h4).mpr (by linarith))
  generalize isqrtBelow (m / 4 ^ k) 24 0 = q at hq hq' ⊢
  have hle : q ^ 2 * 4 ^ k ≤ m := (Nat.le_div_iff_mul_le h4).mp hq
  have hlt : m < (q + 1) ^ 2 * 4 ^ k := (Nat.div_lt_iff_lt_mul h4).mp hq'
  have hq24 : q < 2 ^ 24 :=
    lt_of_pow_lt_pow_left₀ 2 (by positivity) (Nat.lt_of_mul_lt_mul_right (a := 4 ^ k) (by linarith))
  have hfill : 2 ^ 23 < q + 1 :=
    lt_of_pow_lt_pow_left₀ 2 (by positivity) (Nat.lt_of_mul_lt_mul_right (a := 4 ^ k) (by linarith))
  have hsq (t : Nat) : (t * 2 ^ k) ^ 2 = t ^ 2 * 4 ^ k := by rw [mul_pow, ← pow_mul, Nat.mul_comm k, pow_mul]; rfl
  have hmid : (2 * q + 1) * (2 * q + 1) * 4 ^ k = ((2 * q + 1) * 2 ^ k) ^ 2 := by rw [hsq, pow_two]
  rw [hmid]
  refine nearestUnits_of_mid (f := (· ^ 2)) (Nat.pow_left_strictMono two_ne_zero) (.inr (by omega)) hq24 ?_ ?_
  · show (2 * (q * 2 ^ k)) ^ 2 ≤ _
    rw [mul_pow, hsq]
    linarith
  · show _ ≤ (2 * ((q + 1) * 2 ^ k)) ^ 2
    rw [mul_pow, hsq]
    linarith

/-- The root of a finite value is far below the largest finite one. -/
theorem roundRoot_lt {m : Nat} (h : m < 2 ^ 426) : roundRoot m < 2 ^ 277 := by
  have hk : m.log2 / 2 - 23 ≤ 189 := by
    rcases Nat.eq_zero_or_pos m with rfl | hp
    · simp
    · have := (Nat.log2_lt hp.ne').mpr h
      omega
  have hq := isqrtBelow_lt (m / 4 ^ (m.log2 / 2 - 23)) 24 0
  unfold roundRoot
  simp only
  generalize isqrtBelow (m / 4 ^ (m.log2 / 2 - 23)) 24 0 = q at hq ⊢
  generalize m.log2 / 2 - 23 = k at hk ⊢
  calc _ ≤ 2 ^ 24 * 2 ^ 189 :=
        Nat.mul_le_mul (by split <;> (try split) <;> omega) (Nat.pow_le_pow_right (by decide) hk)
    _ < 2 ^ 277 := by rw [← pow_add]; exact Nat.pow_lt_pow_right (by decide) (by decide)

/-! ## Patterns and their values -/

/-- A finite pattern holds a sign over a representable magnitude. -/
theorem exists_units_of_finite {w : Word} (h : (val w).finite = true) : ∃ s n, val w = .fin s n ∧ RepUnits n := by
  have hrep : (val w).Rep := F32.rep_ofBits w
  cases hw : val w with
  | nan => rw [hw] at h; cases h
  | inf => rw [hw] at h; cases h
  | fin s n => rw [hw] at hrep; exact ⟨s, n, rfl, hrep⟩

/-- The last bit of a pattern is the last bit of its fields. -/
theorem even_of_fieldsOf_even {c : Word} {s : Bool} {n : Nat} (hc : val c = .fin s n) (he : F32.fieldsOf n % 2 = 0) :
    c.getLsbD 0 = false := by
  have hb : (val c).toBits = c := F32.toBits_ofBits (by rw [← val, hc]; rfl)
  rw [hc] at hb
  have hlast : (F32.signed s (F32.fieldsOf n)).getLsbD 0 = false := by
    rw [F32.signed, BitVec.getLsbD_ofNat, Nat.testBit_zero]
    cases s <;> simp [Nat.add_mod, he]
  exact hb ▸ hlast

theorem F32.rank_fin (s : Bool) (n : Nat) : (F32.fin s n).rank = signedUnits s n := rfl

@[simp] theorem natAbs_signedUnits (s : Bool) (n : Nat) : (signedUnits s n).natAbs = n := by
  cases s <;> simp [signedUnits]

theorem signedUnits_not (s : Bool) (n : Nat) : signedUnits (!s) n = -signedUnits s n := by
  cases s <;> simp [signedUnits]

theorem signedUnits_mul (s : Bool) (m n : Nat) : signedUnits s (m * n) = signedUnits s m * n := by
  cases s <;> simp [signedUnits]

/-- A value not below zero is its magnitude. -/
theorem signedUnits_of_nonneg {s : Bool} {n : Nat} (h : 0 ≤ signedUnits s n) : signedUnits s n = n := by
  rw [← Int.natAbs_of_nonneg h, natAbs_signedUnits]

theorem signedUnits_xor_mul (s t : Bool) (m n : Nat) :
    signedUnits (s ^^ t) (m * n) = signedUnits s m * signedUnits t n := by
  cases s <;> cases t <;> simp [signedUnits]

theorem signedUnits_sign (z : Int) : signedUnits (decide (z < 0)) z.natAbs = z := by
  rcases lt_or_ge z 0 with hneg | hpos
  · simp only [hneg, decide_true, signedUnits, if_true]
    omega
  · simp only [Int.not_lt.mpr hpos, decide_false, signedUnits, Bool.false_eq_true, if_false]
    omega

/-! ## Nearest patterns -/

/-- A nearest magnitude is nearest among the signed values too: one of the other sign lies beyond 0. -/
theorem NearestUnits.natAbs_le {num den R : Nat} (h : NearestUnits (· * den) (2 * num) R) (hd : 0 < den) {m : Int}
    (hm : RepUnits m.natAbs) :
    ((R : Int) * den - num).natAbs ≤ (m * den - num).natAbs ∧
      (((R : Int) * den - num).natAbs = (m * den - num).natAbs → m ≠ R → F32.fieldsOf R % 2 = 0) := by
  rcases lt_or_ge m 0 with hneg | hpos
  · obtain ⟨-, below, -⟩ := h 0 repUnits_zero
    obtain ⟨n, rfl⟩ := Int.exists_eq_neg_ofNat hneg.le
    have hmul : -(n : Int) * den = -((n * den : Nat) : Int) := by push_cast; ring
    have hn : 0 < n * den := Nat.mul_pos (by omega) hd
    have hR : R * den ≤ 2 * num := by
      rcases Nat.eq_zero_or_pos R with rfl | hp
      · simp
      · exact below hp
    exact ⟨by omega, fun heq => by omega⟩
  · lift m to Nat using hpos
    obtain ⟨above, below, even⟩ := h m hm
    have hadd : (R + m) * den = R * den + m * den := Nat.add_mul ..
    simp only [hadd] at above below even
    rcases Nat.lt_trichotomy m R with hlt | rfl | hgt
    · have := Nat.mul_lt_mul_of_pos_right hlt hd
      have := below hlt
      exact ⟨by omega, fun heq _ => even hlt.ne (by omega)⟩
    · exact ⟨le_rfl, fun _ hne => absurd rfl hne⟩
    · have := Nat.mul_lt_mul_of_pos_right hgt hd
      have := above hgt
      exact ⟨by omega, fun heq _ => even hgt.ne' (by omega)⟩

/-- A pattern that holds a nearest magnitude under the exact value's sign is a nearest pattern. -/
theorem nearestEven_of_nearestUnits {c : Word} {s : Bool} {num den R : Nat} (hd : 0 < den) (hc : val c = .fin s R)
    (h : NearestUnits (· * den) (2 * num) R) : nearestEven c (signedUnits s num) den := by
  intro w hw
  obtain ⟨t, n, hwv, hrep⟩ := exists_units_of_finite hw
  rw [hc, hwv]
  simp only [F32.rank_fin]
  cases s with
  | false =>
    obtain ⟨hle, heven⟩ := h.natAbs_le hd (m := signedUnits t n) (by rwa [natAbs_signedUnits])
    exact ⟨hle, fun heq hne => even_of_fieldsOf_even hc (heven heq hne)⟩
  | true =>
    obtain ⟨hle, heven⟩ := h.natAbs_le hd (m := -signedUnits t n) (by rwa [Int.natAbs_neg, natAbs_signedUnits])
    have hflip (z : Int) : (z * den - signedUnits true num).natAbs = (-z * den - num).natAbs := by
      rw [← Int.natAbs_neg]
      congr 1
      simp only [signedUnits, if_true]
      ring
    have hR : -signedUnits true R = R := by simp [signedUnits]
    rw [hflip, hflip, hR]
    exact ⟨hle, fun heq hne => even_of_fieldsOf_even hc (heven heq (by omega))⟩

theorem nearestEven_neg_den {c : Word} {num den : Int} (h : nearestEven c (-num) den) : nearestEven c num (-den) := by
  have hflip (z : Int) : (z * -den - num).natAbs = (z * den - -num).natAbs := by
    rw [← Int.natAbs_neg]
    congr 1
    ring
  intro w hw
  rw [hflip, hflip]
  exact h w hw

theorem F32.ofMagnitude_of_finite {s : Bool} {n : Nat} (h : (F32.ofMagnitude s n).finite = true) :
    F32.ofMagnitude s n = .fin s n := by
  unfold F32.ofMagnitude at h ⊢
  split
  next hlt => rfl
  next hge => rw [if_neg hge] at h; cases h

/-- A finite rounded ratio is a nearest pattern for it. -/
theorem nearestEven_of_ofMagnitude {c : Word} {s : Bool} {num den : Nat} (hd : 0 < den)
    (hc : val c = .ofMagnitude s (roundRatio num den)) (hf : (val c).finite = true) :
    nearestEven c (signedUnits s num) den :=
  nearestEven_of_nearestUnits hd (hc.trans (F32.ofMagnitude_of_finite (hc ▸ hf))) (nearestUnits_roundRatio num hd)

/-- A finite rounded sum is a nearest pattern for it; an exact zero is 0 under either sign. -/
theorem nearestEven_of_ofSum {c : Word} {b : Bool} {z : Int} (hc : val c = .ofSum b z) (hf : (val c).finite = true) :
    nearestEven c z 1 := by
  unfold F32.ofSum at hc
  split at hc
  next hz =>
    have hzero : signedUnits b 0 = z := by rw [hz]; cases b <;> rfl
    rw [← hzero]
    exact nearestEven_of_nearestUnits Nat.one_pos hc (nearestUnits_roundRatio 0 Nat.one_pos)
  next hz =>
    rw [← signedUnits_sign z]
    exact nearestEven_of_ofMagnitude Nat.one_pos hc hf

/-! ## The operations -/

theorem val_toBits {x : F32} (hx : x.Rep) {c : Word} (hc : c = x.toBits) : val c = x := hc ▸ F32.ofBits_toBits hx

section
variable {c : Word} {s t : Bool} {m n : Nat}

theorem add_nearestEven (hc : val c = (F32.fin s m).add (.fin t n)) (hf : (val c).finite = true) :
    nearestEven c (signedUnits s m + signedUnits t n) 1 := nearestEven_of_ofSum hc hf

theorem sub_nearestEven (hc : val c = (F32.fin s m).sub (.fin t n)) (hf : (val c).finite = true) :
    nearestEven c (signedUnits s m - signedUnits t n) 1 := by
  rw [Int.sub_eq_add_neg, ← signedUnits_not]
  exact nearestEven_of_ofSum hc hf

theorem mul_nearestEven (hc : val c = (F32.fin s m).mul (.fin t n)) (hf : (val c).finite = true) :
    nearestEven c (signedUnits s m * signedUnits t n) (2 ^ 149) := by
  rw [← signedUnits_xor_mul]
  exact_mod_cast nearestEven_of_ofMagnitude (by positivity) hc hf

/-- The quotient is rounded over the divisor's magnitude, under the two signs' product. -/
theorem div_nearestEven (hc : val c = (F32.fin s m).div (.fin t n)) (hf : (val c).finite = true) (hn : n ≠ 0) :
    nearestEven c (signedUnits s m * 2 ^ 149) (signedUnits t n) := by
  simp only [F32.div, if_neg hn] at hc
  have hquot := nearestEven_of_ofMagnitude (Nat.pos_of_ne_zero hn) hc hf
  cases t with
  | false =>
    rw [Bool.xor_false, signedUnits_mul] at hquot
    exact_mod_cast hquot
  | true =>
    rw [Bool.xor_true, signedUnits_not, signedUnits_mul] at hquot
    exact nearestEven_neg_den (by exact_mod_cast hquot)

end

/-- The root of a representable magnitude is one too, and the nearest; -0 for -0. -/
theorem sqrt_fin_nearest {s : Bool} {m : Nat} (hm : RepUnits m) (hpos : 0 ≤ signedUnits s m) :
    ∃ t R, F32.sqrt (.fin s m) = .fin t R ∧ signedUnits t R = R ∧ NearestUnits (· ^ 2) (4 * (m * 2 ^ 149)) R := by
  rcases Nat.eq_zero_or_pos m with rfl | hp
  · refine ⟨s, 0, by simp [F32.sqrt], signedUnits_of_nonneg hpos, fun n _ => ⟨fun _ => by simp, fun hlt => ?_, ?_⟩⟩
    · exact absurd hlt (Nat.not_lt_zero n)
    · exact fun _ _ => rfl
  · cases s with
    | true => simp only [signedUnits, if_true] at hpos; omega
    | false =>
      have hlt : m * 2 ^ 149 < 2 ^ 426 := by
        rw [show 426 = 277 + 149 from rfl, pow_add]
        exact Nat.mul_lt_mul_of_pos_right hm.1 (by positivity)
      refine ⟨false, roundRoot (m * 2 ^ 149), ?_, rfl, nearestUnits_roundRoot (by omega)⟩
      simp only [F32.sqrt, if_neg hp.ne', Bool.false_eq_true, if_false, F32.ofMagnitude, if_pos (roundRoot_lt hlt)]

/-- `fsqrt` of a value not below zero is the nearest value not below zero, by the square of the midpoint. -/
theorem sqrt_nearest {a c : Word} (ha : (val a).finite = true) (hpos : 0 ≤ (val a).rank) (hc : c = (val a).sqrt.toBits) :
    (val c).finite = true ∧ 0 ≤ (val c).rank ∧
    ∀ w : Word, (val w).finite = true → 0 ≤ (val w).rank →
      ((val c).rank < (val w).rank → 4 * ((val a).rank * 2 ^ 149) ≤ ((val c).rank + (val w).rank) ^ 2) ∧
      ((val w).rank < (val c).rank → ((val c).rank + (val w).rank) ^ 2 ≤ 4 * ((val a).rank * 2 ^ 149)) ∧
      ((val w).rank ≠ (val c).rank → ((val c).rank + (val w).rank) ^ 2 = 4 * ((val a).rank * 2 ^ 149) →
        c.getLsbD 0 = false) := by
  have hv := val_toBits (F32.rep_sqrt _) hc
  obtain ⟨s, m, hs, hm⟩ := exists_units_of_finite ha
  rw [hs, F32.rank_fin] at hpos
  obtain ⟨t, R, hR, hRpos, hnear⟩ := sqrt_fin_nearest hm hpos
  rw [hs, hR] at hv
  have even := even_of_fieldsOf_even hv
  rw [hs, hv, F32.rank_fin, F32.rank_fin, signedUnits_of_nonneg hpos, hRpos]
  refine ⟨rfl, Int.natCast_nonneg R, fun w hw hwpos => ?_⟩
  obtain ⟨u, n, hu, hn⟩ := exists_units_of_finite hw
  rw [hu, F32.rank_fin] at hwpos ⊢
  rw [signedUnits_of_nonneg hwpos]
  obtain ⟨above, below, tie⟩ := hnear n hn
  norm_cast
  exact ⟨above, below, fun hne heq => even (tie hne heq)⟩

theorem sqrt_of_neg {a : F32} (ha : a.finite = true) (hneg : a.rank < 0) : a.sqrt = .nan := by
  cases a with
  | nan => cases ha
  | inf => cases ha
  | fin s n =>
    cases s with
    | false => exact absurd hneg (Int.not_lt.mpr (Int.natCast_nonneg n))
    | true =>
      have hn : n ≠ 0 := by rintro rfl; exact absurd hneg (by decide)
      simp [F32.sqrt, hn]

/-- Settles O54: one lemma for each operation, on the signs and magnitudes the patterns hold. -/
theorem arithmeticRoundsToNearest : Obligations.ArithmeticRoundsToNearest := by
  refine ⟨fun a b c ha hb hf => ?_, fun a c => sqrt_nearest, fun a => sqrt_of_neg, rfl⟩
  obtain ⟨s, m, hs, -⟩ := exists_units_of_finite ha
  obtain ⟨t, n, ht, -⟩ := exists_units_of_finite hb
  rw [hs, ht]
  refine ⟨fun hc => add_nearestEven (val_toBits (F32.rep_add _ _) hc) hf,
    fun hc => sub_nearestEven (val_toBits (F32.rep_sub _ _) hc) hf,
    fun hc => mul_nearestEven (val_toBits (F32.rep_mul _ _) hc) hf,
    fun hc hne => div_nearestEven (val_toBits (F32.rep_div _ _) hc) hf ?_⟩
  rintro rfl
  cases t <;> exact hne rfl

end Sys2Proof.Machine
end

section
/-! The staging buffer and the history (10_state.md R47, R88, 41_capture.md R139): only the sample ports, PUSH_CHUNK,
SKIP_HOP and what clears the dynamic state write them, and each of these keeps them clean. -/

namespace Sys2Proof.Machine

/-! ## The fields the two invariants speak of -/

/-- The staging buffer and the history, with their counts and cursor. -/
structure Buffers where
  stage : Vector Word 128
  stageCount : Fin 129
  hist : Vector Word 2048
  histWptr : Fin 2048
  histFill : Fin 2049

/-- The staging buffer and the history of a dynamic state. -/
def Dyn.buffers (d : Dyn) : Buffers := ⟨d.stage, d.stageCount, d.hist, d.histWptr, d.histFill⟩

/-- `e` is as clean as `d`, in the staging buffer and in the history. -/
def Dyn.KeepsClean (d e : Dyn) : Prop := (d.StageClean → e.StageClean) ∧ (d.HistClean → e.HistClean)

theorem Dyn.KeepsClean.trans {d e f : Dyn} (h : d.KeepsClean e) (h' : e.KeepsClean f) : d.KeepsClean f :=
  ⟨h'.1 ∘ h.1, h'.2 ∘ h.2⟩

theorem Dyn.KeepsClean.of_buffers_eq {d e : Dyn} (h : e.buffers = d.buffers) : d.KeepsClean e := by
  simp only [Dyn.buffers, Buffers.mk.injEq] at h
  obtain ⟨hstage, hcount, hhist, hwptr, hfill⟩ := h
  unfold Dyn.KeepsClean Dyn.StageClean Dyn.HistClean
  rw [hstage, hcount, hhist, hwptr, hfill]
  exact ⟨id, id⟩

theorem Dyn.KeepsClean.of_eq {d e : Dyn} (h : e = d) : d.KeepsClean e := .of_buffers_eq (congrArg Dyn.buffers h)

/-! ## An empty staging buffer and an empty history -/

theorem Dyn.stageClean_of_empty {d : Dyn} (h : d.stage = Vector.replicate 128 0#32) : d.StageClean := by
  have hzero : ∀ i : Fin 128, d.stage[i] = 0#32 := by simp [h]
  refine ⟨fun i _ => hzero i, fun i => ?_⟩
  rw [hzero]
  decide

theorem Dyn.histClean_reset : Dyn.reset.HistClean :=
  ⟨by decide, by decide, fun _ => ⟨rfl, fun i _ => by simp [Dyn.reset]⟩⟩

theorem Dyn.keepsClean_reset (d : Dyn) : d.KeepsClean Dyn.reset :=
  ⟨fun _ => Dyn.stageClean_of_empty rfl, fun _ => Dyn.histClean_reset⟩

/-- Emptying the staging buffer does not touch the history. -/
theorem Dyn.keepsClean_unstaged (d : Dyn) : d.KeepsClean d.unstaged := ⟨fun _ => Dyn.stageClean_of_empty rfl, id⟩

/-! ## Staging a sample (41_capture.md R135) -/

theorem sext16_lowSample_sext16 (h : BitVec 16) : sext16 (lowSample (sext16 h)) = sext16 h := by
  have : lowSample (sext16 h) = h := by
    ext j hj
    simp [lowSample, sext16, BitVec.getElem_signExtend, show j < 32 by omega, hj]
  rw [this]

/-- The staged sample is sign-extended and takes the place that STAGE_COUNT then counts; the places above stay zero. -/
theorem State.stageOne_keepsClean (s : State) (h : BitVec 16) : s.dyn.KeepsClean (s.stageOne h).dyn := by
  unfold State.stageOne
  split
  next hlt =>
    refine ⟨fun ⟨habove, hsext⟩ => ⟨fun i hi => ?_, fun i => ?_⟩, id⟩
    · have hne : s.dyn.stageCount.val ≠ i.val := by simp only at hi; omega
      simpa [Vector.getElem_set_ne, hne] using habove i (by simp only at hi; omega)
    · by_cases heq : s.dyn.stageCount.val = i.val
      · simp [heq, sext16_lowSample_sext16]
      · simpa [Vector.getElem_set_ne, heq] using hsext i
  next => exact .of_eq rfl

/-! ## PUSH_CHUNK (41_capture.md R138, R139) -/

/-- The rounds write from the cursor upwards, so they leave what lies above the last place they reach. -/
theorem State.pushSamples_hist_above (l : List (Fin 128)) (s : State) {i : Nat} (hi : i < 2048)
    (habove : s.dyn.histWptr.val + l.length ≤ i) : (l.foldl State.pushSample s).dyn.hist[i] = s.dyn.hist[i] := by
  induction l generalizing s with
  | nil => rfl
  | cons k l ih =>
    rw [List.length_cons] at habove
    have hwptr : (s.pushSample k).dyn.histWptr.val = s.dyn.histWptr.val + 1 := by
      have hframe := (State.pushSamples_frame [k] s).1
      rw [List.length_singleton, Nat.mod_eq_of_lt (by omega)] at hframe
      exact hframe
    rw [List.foldl_cons, ih (s.pushSample k) (by omega)]
    exact Vector.getElem_set_ne s.dyn.histWptr.isLt hi (by omega)

/-- What PUSH_CHUNK leaves in the buffers; of the history's elements, those above the last place written. -/
theorem State.pushChunk_buffers (s : State) :
    (s.pushChunk).dyn.stage = Vector.replicate 128 0#32 ∧
    (s.pushChunk).dyn.histWptr.val = (s.dyn.histWptr.val + 128) % 2048 ∧
    (s.pushChunk).dyn.histFill.val = min (s.dyn.histFill.val + 128) 2048 ∧
    ∀ i : Fin 2048, s.dyn.histWptr.val + 128 ≤ i.val → (s.pushChunk).dyn.hist[i] = s.dyn.hist[i] := by
  obtain ⟨hwptr, -, hframe⟩ := State.pushSamples_frame (List.finRange 128) s
  rw [List.length_finRange] at hwptr
  refine ⟨rfl, hwptr, ?_, fun i hi => ?_⟩
  · unfold State.pushChunk
    rw [hframe]
    rfl
  · exact State.pushSamples_hist_above _ s i.isLt (by rwa [List.length_finRange])

/-- One more chunk fills the next 128 places, cursor and fill count together, until the history is full. -/
theorem State.pushChunk_keepsClean (s : State) : s.dyn.KeepsClean (s.pushChunk).dyn := by
  obtain ⟨hstage, hwptr, hfill, hhist⟩ := s.pushChunk_buffers
  refine ⟨fun _ => Dyn.stageClean_of_empty hstage, fun ⟨hdvdWptr, hdvdFill, hpart⟩ => ?_⟩
  refine ⟨by omega, by omega, fun hlt => ?_⟩
  obtain ⟨heq, hzero⟩ := hpart (by omega)
  refine ⟨by omega, fun i hi => ?_⟩
  rw [hhist i (by omega)]
  exact hzero i (by omega)

/-! ## The stages that do not write the buffers -/

theorem State.storeLanes_buffers (s : State) (l : Vector BinLane 64) : (s.storeLanes l).dyn.buffers = s.dyn.buffers := by
  rw [State.storeLanes_dyn]; simp only [Dyn.buffers]
theorem State.normalise_buffers (s : State) (l : Vector BinLane 64) : (s.normalise l).dyn.buffers = s.dyn.buffers := by
  rw [State.normalise_dyn]; simp only [Dyn.buffers]
theorem State.smooth_buffers (s : State) : s.smooth.dyn.buffers = s.dyn.buffers := by
  rw [State.smooth_dyn]; simp only [Dyn.buffers]
theorem State.onset_buffers (s : State) : s.onset.dyn.buffers = s.dyn.buffers := by
  rw [State.onset_dyn]; simp only [Dyn.buffers]
theorem State.tempoOscillators_buffers (s : State) : s.tempoOscillators.dyn.buffers = s.dyn.buffers := by
  rw [State.tempoOscillators_dyn]; simp only [Dyn.buffers]
theorem State.tempoPower_buffers (s : State) : s.tempoPower.dyn.buffers = s.dyn.buffers := by
  rw [State.tempoPower_dyn]; simp only [Dyn.buffers]
theorem State.tempoConfidence_buffers (s : State) : s.tempoConfidence.dyn.buffers = s.dyn.buffers := by
  rw [State.tempoConfidence_dyn]; simp only [Dyn.buffers]
theorem State.tempoContrib_buffers (s : State) : s.tempoContrib.dyn.buffers = s.dyn.buffers := by
  rw [State.tempoContrib_dyn]; simp only [Dyn.buffers]
theorem State.tempoBpm_buffers (s : State) : s.tempoBpm.dyn.buffers = s.dyn.buffers := by
  rw [State.tempoBpm_dyn]; simp only [Dyn.buffers]
theorem State.tempoPhase_buffers (s : State) (e : Nat) : (s.tempoPhase e).dyn.buffers = s.dyn.buffers := by
  rw [State.tempoPhase_dyn]; simp only [Dyn.buffers]
theorem State.tempoLock_buffers (s : State) : s.tempoLock.dyn.buffers = s.dyn.buffers := by
  rw [State.tempoLock_dyn]; simp only [Dyn.buffers]

theorem State.goertzel_buffers (s : State) : s.goertzel.dyn.buffers = s.dyn.buffers := by
  rw [State.goertzel, State.smooth_buffers, State.normalise_buffers, State.storeLanes_buffers]

theorem State.tempo_buffers (s : State) : s.tempo.dyn.buffers = s.dyn.buffers := by
  rw [State.tempo, State.tempoLock_buffers, State.tempoPhase_buffers, State.tempoBpm_buffers,
    State.tempoContrib_buffers, State.tempoConfidence_buffers, State.tempoPower_buffers, State.tempoOscillators_buffers]

/-- Of a hop's stages only PUSH_CHUNK writes the buffers (40_sequencer.md R126). -/
theorem State.hop_buffers (s : State) : s.hop.dyn.buffers = (s.pushChunk).dyn.buffers := by
  rw [State.hop, State.commit_dyn, State.countHop_dyn, State.tempo_buffers, State.onset_buffers, State.goertzel_buffers]

theorem State.hop_keepsClean (s : State) : s.dyn.KeepsClean s.hop.dyn :=
  s.pushChunk_keepsClean.trans (.of_buffers_eq s.hop_buffers)

theorem State.skipHop_keepsClean (s : State) : s.dyn.KeepsClean s.skipHop.dyn :=
  s.dyn.keepsClean_unstaged.trans (.of_buffers_eq rfl)

/-! ## Writing CTRL (40_sequencer.md R127) -/

theorem State.writeCtrlEnabled_dyn (s : State) (v : Word) : (s.writeCtrlEnabled v).dyn = s.dyn := by
  unfold State.writeCtrlEnabled
  (repeat' split) <;> rfl

/-- A successful enable clears the dynamic state; a write that does not enable leaves it. -/
theorem State.writeCtrlDisabled_dyn (s : State) (v : Word) :
    (s.writeCtrlDisabled v).dyn = s.dyn ∨ (s.writeCtrlDisabled v).dyn = Dyn.reset := by
  unfold State.writeCtrlDisabled
  split
  · obtain ⟨-, heq⟩ | ⟨w, -, heq⟩ := State.tryEnable_cases { s with ctrl := ctrlOf (modeField v) false }
    · exact .inr (by rw [heq, State.cleared_dyn])
    · exact .inl (by rw [heq]; rfl)
  · exact .inl rfl

theorem State.writeCtrlDisabled_keepsClean (s : State) (v : Word) : s.dyn.KeepsClean (s.writeCtrlDisabled v).dyn := by
  obtain heq | heq := s.writeCtrlDisabled_dyn v
  · exact .of_eq heq
  · exact heq ▸ s.dyn.keepsClean_reset

/-! ## Every instruction, and the step -/

/-- Every instruction keeps the buffers clean: one case for each, and a refused instruction answers no state. -/
theorem exec_keepsClean {i : Instr} {s t : State} (h : exec i s = .next t) : s.dyn.KeepsClean t.dyn := by
  cases i with
  | nop => cases h; exact .of_eq rfl
  | pushChunk =>
    cases h
    rw [State.complete_dyn]
    split
    · exact s.pushChunk_keepsClean
    · exact .of_eq rfl
  | runGoertzel => cases h; exact .of_buffers_eq s.goertzel_buffers
  | runOnset => cases h; exact .of_buffers_eq s.onset_buffers
  | runTempo => cases h; exact .of_buffers_eq s.tempo_buffers
  | commit => cases h; exact .of_eq rfl
  | hop =>
    cases h
    rw [State.complete_dyn]
    split
    · exact s.hop_keepsClean
    · exact .of_eq rfl
  | skipHop => cases h; exact s.skipHop_keepsClean
  | clearState => cases h; exact s.dyn.keepsClean_reset
  | softReset => cases h; exact s.dyn.keepsClean_reset
  | wrCtrl v =>
    cases h
    split
    · exact .of_eq rfl
    · split
      · exact .of_eq (s.writeCtrlEnabled_dyn v)
      · exact s.writeCtrlDisabled_keepsClean v
  | wrCmd v => cases h; exact .of_eq (s.accept_dyn v)
  | wrStatus v => cases h; exact .of_eq rfl
  | wrErr v => cases h; exact .of_eq rfl
  | wrIrqEn v => cases h; exact .of_eq rfl
  | wrSampleIn v =>
    cases h
    split
    · exact .of_eq rfl
    · split
      · exact .of_eq rfl
      · exact s.stageOne_keepsClean _
  | wrSamplePair v =>
    cases h
    split
    · exact .of_eq rfl
    · split
      · exact .of_eq rfl
      · exact (s.stageOne_keepsClean _).trans (State.stageOne_keepsClean _ _)
  | wrRuntime off v =>
    simp only [exec, execWrRuntime] at h
    (repeat' split at h) <;> cases h <;> exact .of_eq rfl
  | wrCfg off v =>
    simp only [exec, execWrCfg] at h
    (repeat' split at h) <;> cases h <;> exact .of_eq rfl
  | wrOther size off v =>
    simp only [exec, execWrOther] at h
    split at h <;> cases h
    exact .of_eq rfl
  | rd size off =>
    cases h
    split <;> exact .of_eq rfl

/-- Settles O56: a step does nothing or runs one instruction, in a state with the same buffers. -/
theorem stepKeepsTheBuffersClean : Obligations.StepKeepsTheBuffersClean := by
  intro s t h
  obtain ⟨rfl, -⟩ | ⟨ts, i, -, -, hexec⟩ | ⟨r, rest, ts, i, -, -, hexec⟩ := step_cases h
  · exact ⟨id, id⟩
  · exact (exec_keepsClean hexec :)
  · exact (exec_keepsClean hexec :)

end Sys2Proof.Machine
end

section
/-! The address map (10_state.md R25): `slotAt` and `Slot.offset` are inverse to each other. A lookup only answers a word
that stands at the offset looked up, and it finds each of its words, because no lookup tried before it names the offset. -/

namespace Sys2Proof.Machine

/-! ## Lookups that answer only words at the offset looked up -/

/-- Whatever word the lookup `o` at byte offset `a` answers stands at `a`. -/
def AnswersAt {α : Type} (off : α → Nat) (a : Nat) (o : Option α) : Prop := ∀ x, o = some x → a = off x

theorem elemAt_iff {base n a : Nat} {i : Fin n} (hb : base % 4 = 0) : elemAt base n a = some i ↔ a = base + 4 * i.val := by
  rw [elemAt_eq_some]
  omega

theorem elemAt_element {base n : Nat} (i : Fin n) (hb : base % 4 = 0) : elemAt base n (base + 4 * i.val) = some i :=
  (elemAt_iff hb).mpr rfl

section
variable {α β : Type} {off : β → Nat} {a : Nat}

theorem AnswersAt.orElse {o p : Option β} (ho : AnswersAt off a o) (hp : AnswersAt off a p) :
    AnswersAt off a (o <|> p) := by
  intro x hx
  obtain hx | ⟨-, hx⟩ := (Option.orElse_eq_some ..).mp hx
  · exact ho x hx
  · exact hp x hx

theorem AnswersAt.map {f : α → β} {o : Option α} (ho : AnswersAt (off ∘ f) a o) : AnswersAt off a (o.map f) := by
  intro x hx
  obtain ⟨y, hy, rfl⟩ := Option.map_eq_some_iff.mp hx
  exact ho y hy

/-- The lookup of an array whose words are the `f i`; both premises hold by computation for every array of the map. -/
theorem AnswersAt.array {n base : Nat} {f : Fin n → β} (hb : base % 4 = 0 := by rfl)
    (hf : ∀ i, off (f i) = base + 4 * i.val := by exact fun _ => rfl) : AnswersAt off a ((elemAt base n a).map f) :=
  .map fun i hi => ((elemAt_iff hb).mp hi).trans (hf i).symm

theorem AnswersAt.eq_none {o : Option β} {lo hi : Nat} (ho : AnswersAt off a o)
    (hbounds : ∀ x, lo ≤ off x ∧ off x ≤ hi) (ha : a < lo ∨ hi < a) : o = none :=
  Option.eq_none_iff_forall_ne_some.mpr fun x hx => by
    have := ho x hx
    have := hbounds x
    omega

end

/-! ## The registers -/

theorem CfgReg.offset_bounds (r : CfgReg) : 0x80 ≤ r.offset ∧ r.offset ≤ 0xD8 := by cases r <;> decide
theorem ResReg.offset_bounds (r : ResReg) : 0x100 ≤ r.offset ∧ r.offset ≤ 0x134 := by cases r <;> decide
theorem WorkReg.offset_bounds (r : WorkReg) : 0x6600 ≤ r.offset ∧ r.offset ≤ 0x6644 := by cases r <;> decide

theorem controlSlotAt_offset {a : Nat} {x : Slot} (h : controlSlotAt a = some x) : a = x.offset ∧ a ≤ 0x60 := by
  unfold controlSlotAt at h
  split at h <;> cases h <;> exact ⟨rfl, by decide⟩

theorem controlSlotAt_none {a : Nat} (ha : 0x60 < a) : controlSlotAt a = none :=
  Option.eq_none_iff_forall_ne_some.mpr fun _ hx => Nat.not_le.mpr ha (controlSlotAt_offset hx).2

theorem find_cfgReg_answersAt (a : Nat) : AnswersAt CfgReg.offset a (CfgReg.all.find? (fun r => r.offset == a)) := by
  intro r h
  have hfound := List.find?_some h
  exact (beq_iff_eq.mp hfound).symm

theorem find_cfgReg_none {a : Nat} (ha : a < 0x80 ∨ 0xD8 < a) : CfgReg.all.find? (fun r => r.offset == a) = none :=
  (find_cfgReg_answersAt a).eq_none CfgReg.offset_bounds ha

theorem resAt_answersAt (a : Nat) : AnswersAt ResReg.offset a (resAt a) := by
  intro r h
  unfold resAt at h
  split at h <;> cases h <;> rfl

theorem resAt_none {a : Nat} (ha : a < 0x100 ∨ 0x134 < a) : resAt a = none :=
  (resAt_answersAt a).eq_none ResReg.offset_bounds ha

theorem workRegAt_answersAt (a : Nat) : AnswersAt WorkReg.offset a (workRegAt a) := by
  intro r h
  unfold workRegAt at h
  split at h <;> cases h <;> rfl

theorem workRegAt_none {a : Nat} (ha : a < 0x6600 ∨ 0x6644 < a) : workRegAt a = none :=
  (workRegAt_answersAt a).eq_none WorkReg.offset_bounds ha

/-! ## The three tables and the map answer only words at the offset looked up -/

theorem cfgAt_answersAt (a : Nat) : AnswersAt CfgWord.offset a (cfgAt a) :=
  .orElse (.map (find_cfgReg_answersAt a)) <| .orElse .array <| .orElse .array <| .orElse .array <| .orElse .array <|
    .orElse .array <| .orElse .array <| .orElse .array <| .orElse .array <| .orElse .array .array

theorem workAt_answersAt (a : Nat) : AnswersAt WorkWord.offset a (workAt a) :=
  .orElse .array <| .orElse .array <| .orElse .array <| .orElse .array <| .orElse .array <| .orElse .array <|
    .orElse (.map (workRegAt_answersAt a)) <| .orElse .array <| .orElse .array <| .orElse .array <| .orElse .array <|
    .orElse .array <| .orElse .array <| .orElse .array <| .orElse .array <| .orElse .array .array

theorem slotAt_answersAt (off : Offset) : AnswersAt Slot.offset off.toNat (slotAt off) :=
  .orElse (fun _ hx => (controlSlotAt_offset hx).1) <| .orElse (.map (cfgAt_answersAt _)) <|
    .orElse (.map (resAt_answersAt _)) <| .orElse .array <| .orElse .array <| .orElse .array <|
    .map (workAt_answersAt _)

/-! ## Where the mapped words stand -/

/-- The first and last offset of every run of mapped words (10_state.md R25). -/
def mappedRanges : List (Nat × Nat) :=
  [(0x0000, 0x0060), (0x0080, 0x00D8), (0x0100, 0x0134), (0x0200, 0x02FC), (0x0300, 0x03FC), (0x0400, 0x04FC),
   (0x0800, 0x08FC), (0x0900, 0x09FC), (0x0A00, 0x0AFC), (0x0B00, 0x0BFC), (0x0C00, 0x0CFC), (0x1000, 0x11E0),
   (0x1200, 0x13E0), (0x1400, 0x15E0), (0x1600, 0x17E0), (0x2000, 0x5FFC), (0x6000, 0x60FC), (0x6100, 0x61FC),
   (0x6200, 0x62FC), (0x6300, 0x63FC), (0x6400, 0x64FC), (0x6500, 0x650C), (0x6600, 0x6644), (0x6800, 0x69E0),
   (0x6A00, 0x6BE0), (0x6C00, 0x6DE0), (0x6E00, 0x6FE0), (0x7000, 0x71E0), (0x7200, 0x73E0), (0x7400, 0x75E0),
   (0x7600, 0x77FC), (0x8000, 0x9FFC), (0xA000, 0xA1FC)]

/-- Byte offset `a` is aligned and lies in a run of mapped words. -/
def Mapped (a : Nat) : Prop := a % 4 = 0 ∧ ∃ range ∈ mappedRanges, range.1 ≤ a ∧ a ≤ range.2

/-- Every element of an array that is a run of mapped words is mapped. -/
theorem mapped_element {base n : Nat} (i : Fin n) (hb : base % 4 = 0) (hmem : (base, base + 4 * (n - 1)) ∈ mappedRanges) :
    Mapped (base + 4 * i.val) :=
  ⟨by omega, _, hmem, by simp only; omega, by simp only; omega⟩

theorem CfgWord.offset_mapped (w : CfgWord) : Mapped w.offset := by
  cases w with
  | scalar r => exact ⟨by cases r <;> rfl, (0x80, 0xD8), by decide, r.offset_bounds⟩
  | bin t k => exact mapped_element k (by cases t <;> rfl) (by cases t <;> decide)
  | osc t m => exact mapped_element m (by cases t <;> rfl) (by cases t <;> decide)
  | win j => exact mapped_element j rfl (by decide)

theorem WorkWord.offset_mapped (w : WorkWord) : Mapped w.offset := by
  cases w with
  | bin t k => exact mapped_element k (by cases t <;> rfl) (by cases t <;> decide)
  | zone z => exact mapped_element z rfl (by decide)
  | scalar r => exact ⟨by cases r <;> rfl, (0x6600, 0x6644), by decide, r.offset_bounds⟩
  | osc t m => exact mapped_element m (by cases t <;> rfl) (by cases t <;> decide)
  | nov j => exact mapped_element j rfl (by decide)
  | hist i => exact mapped_element i rfl (by decide)
  | stage i => exact mapped_element i rfl (by decide)

theorem Slot.offset_mapped (x : Slot) : Mapped x.offset := by
  cases x with
  | cfg w => exact w.offset_mapped
  | res r => exact ⟨by cases r <;> rfl, (0x100, 0x134), by decide, r.offset_bounds⟩
  | resBin t k => exact mapped_element k (by cases t <;> rfl) (by cases t <;> decide)
  | work w => exact w.offset_mapped
  | _ => exact ⟨rfl, (0x00, 0x60), by decide, by decide⟩

/-- Every mapped word lies in the window up to the last staged element. -/
theorem Slot.offset_le (x : Slot) : x.offset ≤ 0xA1FC := by
  obtain ⟨-, range, hmem, -, hle⟩ := x.offset_mapped
  have hend : ∀ range ∈ mappedRanges, range.2 ≤ 0xA1FC := by decide
  exact hle.trans (hend range hmem)

theorem CfgWord.offset_ge (w : CfgWord) : 0x80 ≤ w.offset := by
  cases w with
  | scalar r => exact r.offset_bounds.1
  | bin t k => cases t <;> exact Nat.le_add_right_of_le (by decide)
  | osc t m => cases t <;> exact Nat.le_add_right_of_le (by decide)
  | win j => exact Nat.le_add_right_of_le (by decide)

theorem WorkWord.offset_ge (w : WorkWord) : 0x6000 ≤ w.offset := by
  cases w with
  | bin t k => cases t <;> exact Nat.le_add_right_of_le (by decide)
  | osc t m => cases t <;> exact Nat.le_add_right_of_le (by decide)
  | scalar r => exact le_trans (by decide) r.offset_bounds.1
  | _ => exact Nat.le_add_right_of_le (by decide)

/-! ## A lookup finds each of its words -/

theorem cfgAt_none {a : Nat} (ha : 0x100 ≤ a ∧ a < 0x800 ∨ 0x6000 ≤ a) : cfgAt a = none := by
  simp (disch := omega) [cfgAt, find_cfgReg_none, elemAt_eq_none]

theorem cfgAt_offset (w : CfgWord) : cfgAt w.offset = some w := by
  cases w with
  | scalar r => cases r <;> rfl
  | bin t k =>
    cases t <;> simp (disch := omega) [cfgAt, CfgWord.offset, BinTable.base, find_cfgReg_none, elemAt_eq_none,
      elemAt_element]
  | osc t m =>
    cases t <;> simp (disch := omega) [cfgAt, CfgWord.offset, OscTable.base, find_cfgReg_none, elemAt_eq_none,
      elemAt_element]
  | win j => simp (disch := omega) [cfgAt, CfgWord.offset, find_cfgReg_none, elemAt_eq_none, elemAt_element]

theorem workAt_offset (w : WorkWord) : workAt w.offset = some w := by
  cases w with
  | bin t k => cases t <;> simp (disch := omega) [workAt, WorkWord.offset, WorkTable.base, elemAt_eq_none,
    elemAt_element]
  | zone z => simp (disch := omega) [workAt, WorkWord.offset, elemAt_eq_none, elemAt_element]
  | scalar r => cases r <;> rfl
  | osc t m =>
    cases t <;> simp (disch := omega) [workAt, WorkWord.offset, OscArray.base, workRegAt_none, elemAt_eq_none,
      elemAt_element]
  | nov j => simp (disch := omega) [workAt, WorkWord.offset, workRegAt_none, elemAt_eq_none, elemAt_element]
  | hist i => simp (disch := omega) [workAt, WorkWord.offset, workRegAt_none, elemAt_eq_none, elemAt_element]
  | stage i => simp (disch := omega) [workAt, WorkWord.offset, workRegAt_none, elemAt_eq_none, elemAt_element]

theorem slotAt_of_offset {off : Offset} {x : Slot} (h : off.toNat = x.offset) : slotAt off = some x := by
  unfold slotAt
  rw [h]
  cases x with
  | cfg w =>
    have hge := w.offset_ge
    simp (disch := omega) [Slot.offset, controlSlotAt_none, cfgAt_offset]
  | res r => cases r <;> rfl
  | resBin t k =>
    cases t <;>
      simp (disch := omega) [Slot.offset, ResTable.base, controlSlotAt_none, cfgAt_none, resAt_none,
        elemAt_eq_none, elemAt_element]
  | work w =>
    have hge := w.offset_ge
    simp (disch := omega) [Slot.offset, controlSlotAt_none, cfgAt_none, resAt_none, elemAt_eq_none, workAt_offset]
  | _ => rfl

theorem slotAt_iff (off : Offset) (x : Slot) : slotAt off = some x ↔ off.toNat = x.offset :=
  ⟨slotAt_answersAt off x, slotAt_of_offset⟩

/-! ## Offsets that name no word -/

theorem slotAt_none_of_not_mapped {off : Offset} (h : ¬ Mapped off.toNat) : slotAt off = none :=
  Option.eq_none_iff_forall_ne_some.mpr fun x hx => h ((slotAt_iff off x).mp hx ▸ x.offset_mapped)

/-- The ranges 10_state.md R25 lists as reserved, the unused ends of the OSC_* slots, and what lies past the last array. -/
def reservedRanges : List (Nat × Nat) :=
  [(0x0064, 0x007C), (0x00DC, 0x00FC), (0x0138, 0x01FC), (0x0500, 0x07FC), (0x0D00, 0x0FFC),
   (0x11E4, 0x11FC), (0x13E4, 0x13FC), (0x15E4, 0x15FC), (0x17E4, 0x17FC), (0x1800, 0x1FFC), (0x6510, 0x65FC),
   (0x6648, 0x67FC), (0x69E4, 0x69FC), (0x6BE4, 0x6BFC), (0x6DE4, 0x6DFC), (0x6FE4, 0x6FFC), (0x71E4, 0x71FC),
   (0x73E4, 0x73FC), (0x75E4, 0x75FC), (0x7800, 0x7FFC), (0xA200, 0xFFFC)]

theorem reserved_disjoint_mapped :
    ∀ hole ∈ reservedRanges, ∀ range ∈ mappedRanges, range.2 < hole.1 ∨ hole.2 < range.1 := by decide

theorem not_mapped_of_reserved {a : Nat} {hole : Nat × Nat} (hmem : hole ∈ reservedRanges) (hlo : hole.1 ≤ a)
    (hhi : a ≤ hole.2) : ¬ Mapped a := by
  rintro ⟨-, range, hrange, hle, hge⟩
  have := reserved_disjoint_mapped hole hmem range hrange
  omega

/-- Settles O23: the map and the offsets are inverse to each other, and no run of mapped words meets a reserved range. -/
theorem addressMapIsExact : Obligations.AddressMapIsExact := by
  refine ⟨slotAt_iff, fun x => slotAt_of_offset ?_, fun off hmis => slotAt_none_of_not_mapped fun h => hmis h.1,
    fun hole hmem off hlo hhi => slotAt_none_of_not_mapped (not_mapped_of_reserved hmem hlo hhi)⟩
  have := x.offset_le
  exact Nat.mod_eq_of_lt (by omega)

end Sys2Proof.Machine
end

section
/-! The bits of STATUS (10_state.md R31): the low eight are fields of the state or views of what another register shows, and
the rest are zero. -/

namespace Sys2Proof.Machine

theorem State.status_getLsbD (s : State) (i : Nat) :
    (s.word .status).getLsbD i =
      [s.busy, s.done, s.onsetEvt, s.errAny, s.histFull, s.stageFull, s.enabled, s.irq].getD i false := by
  simp only [State.word, State.statusWord, BitVec.getLsbD_setWidth, BitVec.getLsbD_ofBoolListLE]
  rcases Nat.lt_or_ge i 32 with hlt | hge
  · simp [hlt]
  · rw [List.getD_eq_default _ _ (le_trans (by simp) hge), Bool.and_false]

theorem natWord_eq_iff {m n : Nat} (hm : m < 2 ^ 32) (hn : n < 2 ^ 32) : natWord m = natWord n ↔ m = n := by
  unfold natWord
  bv_omega

theorem State.errAny_eq (s : State) : s.errAny = decide (s.word .err ≠ 0#32) := by
  have hzero : s.word .err = 0#32 ↔ s.err = 0#11 := by
    simp only [State.word]
    bv_omega
  rw [State.errAny, decide_not, decide_eq_decide.mpr hzero]
  rfl

theorem State.histFull_eq (s : State) : s.histFull = decide (s.word .histFill = 2048#32) :=
  decide_eq_decide.mpr (natWord_eq_iff (n := 2048) (by omega) (by decide)).symm

theorem State.stageFull_eq (s : State) : s.stageFull = decide (s.word .stageCount = 128#32) :=
  decide_eq_decide.mpr (natWord_eq_iff (n := 128) (by omega) (by decide)).symm

theorem State.enabled_eq (s : State) : s.enabled = (s.word .ctrl).getLsbD 0 := by
  simp [State.enabled, State.word]

/-- Settles O12: bit by bit from the list STATUS is built of. -/
theorem statusBitsMirrorTheState : Obligations.StatusBitsMirrorTheState := by
  intro s
  refine ⟨s.status_getLsbD 0, s.status_getLsbD 1, s.status_getLsbD 2, (s.status_getLsbD 3).trans s.errAny_eq,
    (s.status_getLsbD 4).trans s.histFull_eq, (s.status_getLsbD 5).trans s.stageFull_eq,
    (s.status_getLsbD 6).trans s.enabled_eq, s.status_getLsbD 7, fun i hi => ?_⟩
  rw [s.status_getLsbD i]
  exact List.getD_eq_default _ _ hi

end Sys2Proof.Machine
end

section
/-! Decoding (30_encoding.md R110 to R114): laying a word out as bytes loses nothing, so a command word decodes as such and a
bus record as such; the ten opcodes name the ten commands, and no bus record names one. -/

namespace Sys2Proof

/-! ## Bytes (20_memory.md R98) -/

theorem length_bytesOf (n v : Nat) : (bytesOf n v).length = n := by
  induction n generalizing v with
  | zero => rfl
  | succ n ih => rw [bytesOf, List.length_cons, ih]

theorem numberOf_bytesOf (n v : Nat) : numberOf (bytesOf n v) = v % 256 ^ n := by
  induction n generalizing v with
  | zero => rw [pow_zero, Nat.mod_one]; rfl
  | succ n ih =>
    rw [bytesOf, numberOf, ih, BitVec.toNat_ofNat, pow_succ' 256]
    exact Nat.mod_mul.symm

theorem decode_commandBytes (w : Word) : decode (commandBytes w) = decodeCommand w := by
  have hlen : (commandBytes w).length = 4 := length_bytesOf ..
  have hnum : numberOf (commandBytes w) = w.toNat := by
    rw [commandBytes, numberOf_bytesOf]
    exact Nat.mod_eq_of_lt w.isLt
  rw [decode, if_pos hlen, hnum, BitVec.ofNat_toNat, BitVec.setWidth_eq]

theorem decode_accessBytes (r : BitVec 64) : decode (accessBytes r) = decodeAccess r := by
  have hlen : (accessBytes r).length = 8 := length_bytesOf ..
  have hnum : numberOf (accessBytes r) = r.toNat := by
    rw [accessBytes, numberOf_bytesOf]
    exact Nat.mod_eq_of_lt r.isLt
  rw [decode, if_neg (by omega), if_pos hlen, hnum, BitVec.ofNat_toNat, BitVec.setWidth_eq]

/-! ## Opcodes (30_encoding.md R112) -/

/-- The opcode of a command; a bus access has none. It is the inverse of `decodeOp` (`decodeOp_eq_some_iff`). -/
def Instr.opcode : Instr → Option (BitVec 8)
  | .nop => some 0x00#8
  | .pushChunk => some 0x01#8
  | .runGoertzel => some 0x02#8
  | .runOnset => some 0x03#8
  | .runTempo => some 0x04#8
  | .commit => some 0x05#8
  | .hop => some 0x06#8
  | .skipHop => some 0x07#8
  | .clearState => some 0x08#8
  | .softReset => some 0x09#8
  | .wrCtrl _ | .wrCmd _ | .wrStatus _ | .wrErr _ | .wrIrqEn _ | .wrSampleIn _ | .wrSamplePair _ => none
  | .wrRuntime _ _ | .wrCfg _ _ | .wrOther _ _ _ | .rd _ _ => none

theorem decodeOp_eq_some_iff (op : BitVec 8) (i : Instr) : decodeOp op.toNat = some i ↔ i.opcode = some op := by
  constructor
  · intro h
    unfold decodeOp at h
    split at h <;> cases h <;> exact congrArg some (BitVec.eq_of_toNat_eq (Eq.symm ‹_›))
  · intro h
    cases i <;> cases h <;> rfl

/-- A command word `zext_32(OP)` has MBZ = 0, so it decodes as the opcode map says (30_encoding.md R111). -/
theorem decodeCommand_setWidth_eq_ok_iff (op : BitVec 8) (i : Instr) :
    decodeCommand (op.setWidth 32) = .ok i ↔ i.opcode = some op := by
  have hmbz : (op.setWidth 32).extractLsb' 8 24 = 0#24 := by
    apply BitVec.eq_of_toNat_eq
    have := op.isLt
    simp only [BitVec.extractLsb'_toNat, BitVec.toNat_setWidth, BitVec.toNat_ofNat, Nat.shiftRight_eq_div_pow]
    omega
  have hop : (op.setWidth 32).extractLsb' 0 8 = op := by
    apply BitVec.eq_of_toNat_eq
    have := op.isLt
    simp only [BitVec.extractLsb'_toNat, BitVec.toNat_setWidth, Nat.shiftRight_zero]
    omega
  rw [decodeCommand, hmbz, hop, if_neg (not_not.mpr rfl), ← decodeOp_eq_some_iff]
  cases decodeOp op.toNat <;> simp

/-! ## Bus accesses (30_encoding.md R114) -/

/-- The last row of the table takes only the offsets that no row above it names. -/
theorem decodeWordWrite_wf (off : Offset) (v : Word) : (decodeWordWrite off v).wf = true := by
  unfold decodeWordWrite
  split_ifs with hctrl hcmd hstatus herr hirq hsample hpair hruntime hcfg
  iterate 7 rfl
  · exact hruntime
  · exact hcfg
  · simp [Instr.wf, Machine.isNamedWrite, hctrl, hcmd, hstatus, herr, hirq, hsample, hpair, hruntime, hcfg]

theorem decodeWordWrite_opcode (off : Offset) (v : Word) : (decodeWordWrite off v).opcode = none := by
  unfold decodeWordWrite
  split_ifs <;> rfl

/-- A bus record stands for a well-formed access, never for a command. -/
theorem decodeAccess_ok {r : BitVec 64} {i : Instr} (h : decodeAccess r = .ok i) : i.opcode = none ∧ i.wf = true := by
  unfold decodeAccess at h
  split at h
  · cases h
  · split at h
    · cases h
    next size _ =>
      split at h
      · split at h <;> cases h
        exact ⟨rfl, rfl⟩
      · cases h
        cases size with
        | word => exact ⟨decodeWordWrite_opcode .., decodeWordWrite_wf ..⟩
        | byte => exact ⟨rfl, rfl⟩
        | half => exact ⟨rfl, rfl⟩

end Sys2Proof
end

section
/-! Who moves next (20_memory.md R104, notes/assumptions/1.md): one equation of `State.fetch` per answer. -/

namespace Sys2Proof.Machine

section
variable {s : State}

theorem State.fetch_idle (hidle : s.busy = false) (hport : s.port = []) : s.fetch = .idle := by
  simp only [State.fetch, hidle, hport]

theorem State.fetch_host_of_idle {r : BitVec 64} {rest : List (BitVec 64)} (hidle : s.busy = false)
    (hport : s.port = r :: rest) : s.fetch = .host (accessBytes r) { s with port := rest } := by
  simp only [State.fetch, hidle, hport]

theorem State.fetch_engine_of_port_nil (hbusy : s.busy = true) (hport : s.port = []) :
    s.fetch = .engine s.pendingBytes s := by
  simp only [State.fetch, hbusy, hport]

theorem State.fetch_engine_of_turns_nil (hbusy : s.busy = true) (hturns : s.turns = []) :
    s.fetch = .engine s.pendingBytes s := by
  cases hport : s.port with
  | nil => exact State.fetch_engine_of_port_nil hbusy hport
  | cons r rest => simp only [State.fetch, hbusy, hport, hturns]

theorem State.fetch_engine_of_turn {ts : List Agent} (hbusy : s.busy = true) (hport : s.port ≠ [])
    (hturns : s.turns = .engine :: ts) : s.fetch = .engine s.pendingBytes { s with turns := ts } := by
  obtain ⟨r, rest, hport⟩ := List.exists_cons_of_ne_nil hport
  simp only [State.fetch, hbusy, hport, hturns]

theorem State.fetch_host_of_turn {r : BitVec 64} {rest : List (BitVec 64)} {ts : List Agent} (hbusy : s.busy = true)
    (hport : s.port = r :: rest) (hturns : s.turns = .host :: ts) :
    s.fetch = .host (accessBytes r) { s with port := rest, turns := ts } := by
  simp only [State.fetch, hbusy, hport, hturns]

end

/-- Settles O6: one equation of the fetch per clause. -/
theorem fetchFollowsTheOrderOfMoves : Obligations.FetchFollowsTheOrderOfMoves := fun _ =>
  ⟨State.fetch_idle, fun _ _ => State.fetch_host_of_idle, State.fetch_engine_of_port_nil,
    State.fetch_engine_of_turns_nil, fun _ => State.fetch_engine_of_turn, fun _ _ _ => State.fetch_host_of_turn⟩

end Sys2Proof.Machine
end

section
/-! The byte view of the window (20_memory.md R98): the four bytes from an aligned offset on belong to the word there. -/

namespace Sys2Proof.Machine

/-- Clearing the two low bits of an offset rounds it down to a multiple of four. -/
theorem toNat_and_wordMask (x : Offset) : (x &&& 0xFFFC#16).toNat = x.toNat / 4 * 4 := by
  have hlt := x.isLt
  have hmod : (x.toNat &&& 0xFFFC) % 2 ^ 2 = 0 := by rw [Nat.and_mod_two_pow]; exact Nat.and_zero _
  have hdiv : (x.toNat &&& 0xFFFC) / 2 ^ 2 = x.toNat / 2 ^ 2 := by
    rw [Nat.and_div_two_pow]
    calc x.toNat / 2 ^ 2 &&& 0xFFFC / 2 ^ 2 = x.toNat / 2 ^ 2 % 2 ^ 14 := Nat.and_two_pow_sub_one_eq_mod _ 14
      _ = x.toNat / 2 ^ 2 := Nat.mod_eq_of_lt (by omega)
  rw [BitVec.toNat_and]
  show x.toNat &&& 0xFFFC = _
  omega

theorem State.byteAt_add (s : State) {off : Offset} (hal : off.toNat % 4 = 0) {k : Nat} (hk : k < 4) :
    s.byteAt (off + BitVec.ofNat 16 k) = (s.wordAt off).extractLsb' (8 * k) 8 := by
  have hlt := off.isLt
  have hadd : (off + BitVec.ofNat 16 k).toNat = off.toNat + k := by
    rw [BitVec.toNat_add, BitVec.toNat_ofNat]
    omega
  have hword : (off + BitVec.ofNat 16 k) &&& 0xFFFC#16 = off := by
    apply BitVec.eq_of_toNat_eq
    rw [toNat_and_wordMask, hadd]
    omega
  have hbyte : (off.toNat + k) % 4 = k := by omega
  rw [State.byteAt, hword, hadd, hbyte]

/-- Settles O24: byte `k` of the word is at the word's offset plus `k`. -/
theorem littleEndianBytes : Obligations.LittleEndianBytes := by
  intro s off hal
  have hzero : s.byteAt off = (s.wordAt off).extractLsb' 0 8 := by
    have := s.byteAt_add hal (k := 0) (by decide)
    rwa [BitVec.add_zero] at this
  exact ⟨hzero, s.byteAt_add hal (k := 1) (by decide), s.byteAt_add hal (k := 2) (by decide),
    s.byteAt_add hal (k := 3) (by decide)⟩

end Sys2Proof.Machine
end

section
/-! What a step can do to the registers that decide who may write what (ENABLE with the mode bits, the command latch), to
the configuration these protect, and to the result bank: the moves are listed once, and the statements about them are read
off the list (20_memory.md R101, R108, 40_sequencer.md R120, R127, R129). -/

namespace Sys2Proof.Machine

/-! ## The fields and the moves -/

/-- CTRL, the command latch, CFG_FAIL_ADDR, the configuration and the result bank. -/
structure Control where
  ctrl : BitVec 5
  busy : Bool
  pendingCmd : BitVec 8
  cfgFailAddr : Word
  cfg : Cfg
  res : Results

/-- These fields of a state. -/
def State.control (s : State) : Control := ⟨s.ctrl, s.busy, s.pendingCmd, s.cfgFailAddr, s.cfg, s.res⟩

/-- ENABLE, as `State.enabled` reads it. -/
def Control.enabled (c : Control) : Bool := c.ctrl.getLsbD 0

/-- What a host access can do to the control fields. -/
inductive AccessMove (c d : Control) : Prop where
  /-- It leaves them alone. -/
  | kept (heq : d = c)
  /-- A command is accepted (40_sequencer.md R120). -/
  | accepted (op : BitVec 8) (hlegal : op ≤ 0x09#8) (hen : needsEnable op = true → c.enabled = true)
      (heq : d = { c with busy := true, pendingCmd := op })
  /-- CTRL is written and the block is disabled after it: a disable, a write of the mode bits or a failed enable attempt
  (40_sequencer.md R127). -/
  | disabled (hidle : c.busy = false) (hoff : d.enabled = false)
      (heq : d = { c with ctrl := d.ctrl, cfgFailAddr := d.cfgFailAddr })
  /-- An enable attempt succeeds (40_sequencer.md R127). -/
  | enabled (hidle : c.busy = false) (hvalid : c.cfg.validate = none)
      (heq : d = { c with ctrl := d.ctrl, cfgFailAddr := 0xFFFFFFFF#32 })
  /-- A configuration word is written (40_sequencer.md R129). -/
  | configured (cfg : Cfg) (hidle : c.busy = false) (hoff : c.enabled = false) (heq : d = { c with cfg := cfg })

/-- What the completion of the command in the latch can do to the control fields. -/
inductive CompletionMove (c d : Control) : Prop where
  /-- Only BUSY is cleared (40_sequencer.md R121). -/
  | completed (heq : d = { c with busy := false })
  /-- COMMIT or HOP publishes the result bank (45_commit.md R170). -/
  | published (hop : c.pendingCmd = 0x05#8 ∨ c.pendingCmd = 0x06#8) (hseq : d.res.seq = c.res.seq + 1#32)
      (heq : d = { c with busy := false, res := d.res })
  /-- SOFT_RESET puts every field at its reset value (40_sequencer.md R124). -/
  | wasReset (hop : c.pendingCmd = 0x09#8) (heq : d = State.reset.control)

/-! ## Host accesses -/

theorem State.accept_move (s : State) (v : Word) : AccessMove s.control (s.accept v).control := by
  obtain ⟨-, heq⟩ | ⟨-, -, heq⟩ | ⟨-, -, -, -, -, heq⟩ | ⟨-, -, hlegal, hen, heq⟩ := s.accept_cases v
  · exact .kept (by rw [heq]; rfl)
  · exact .kept (by rw [heq]; rfl)
  · exact .kept (by rw [heq]; rfl)
  · exact .accepted _ hlegal hen (by rw [heq]; rfl)

theorem State.writeCtrlEnabled_move (s : State) (v : Word) (hidle : s.busy = false) :
    AccessMove s.control (s.writeCtrlEnabled v).control := by
  unfold State.writeCtrlEnabled
  by_cases hkeep : v.getLsbD 0 = true
  · refine .kept ?_
    rw [if_pos hkeep]
    split <;> rfl
  · rw [if_neg hkeep]
    refine .disabled hidle (ctrlOf_enable _ _) ?_
    split <;> rfl

theorem State.writeCtrlDisabled_move (s : State) (v : Word) (hidle : s.busy = false) :
    AccessMove s.control (s.writeCtrlDisabled v).control := by
  unfold State.writeCtrlDisabled
  by_cases htry : v.getLsbD 0 = true
  · rw [if_pos htry]
    obtain ⟨hvalid, heq⟩ | ⟨w, -, heq⟩ := State.tryEnable_cases { s with ctrl := ctrlOf (modeField v) false }
    · exact .enabled hidle hvalid (by rw [heq]; rfl)
    · rw [heq]
      exact .disabled hidle (ctrlOf_enable _ _) rfl
  · rw [if_neg htry]
    exact .disabled hidle (ctrlOf_enable _ _) rfl

theorem State.stageOne_control (s : State) (h : BitVec 16) : (s.stageOne h).control = s.control := by
  simp [State.control]

theorem State.ite_raiseErr_control {s t : State} {c : Prop} [Decidable c] {e : Err} (h : t.control = s.control) :
    (if c then s.raiseErr e else t).control = s.control := by
  split
  · rfl
  · exact h

/-- Only writes of CMD, of CTRL and of a configuration word touch the control fields. -/
theorem exec_accessMove {i : Instr} {s t : State} (hi : i.opcode = none) (h : exec i s = .next t) :
    AccessMove s.control t.control := by
  cases i with
  | wrCtrl v =>
    cases h
    cases hbusy : s.busy with
    | true => exact .kept rfl
    | false =>
      simp only [Bool.false_eq_true, if_false]
      split
      · exact s.writeCtrlEnabled_move v hbusy
      · exact s.writeCtrlDisabled_move v hbusy
  | wrCmd v => cases h; exact s.accept_move v
  | wrStatus v => cases h; exact .kept rfl
  | wrErr v => cases h; exact .kept rfl
  | wrIrqEn v => cases h; exact .kept rfl
  | wrSampleIn v =>
    cases h
    exact .kept (State.ite_raiseErr_control (State.ite_raiseErr_control (s.stageOne_control _)))
  | wrSamplePair v =>
    cases h
    refine .kept (State.ite_raiseErr_control (State.ite_raiseErr_control ?_))
    rw [State.stageOne_control, State.stageOne_control]
  | wrRuntime off v =>
    simp only [exec, execWrRuntime] at h
    split at h
    · cases h; exact .kept (State.ite_raiseErr_control rfl)
    · split at h
      · cases h; exact .kept (State.ite_raiseErr_control rfl)
      · cases h
  | wrCfg off v =>
    simp only [exec, execWrCfg] at h
    split at h
    · cases h
    next w _ =>
      cases h
      cases hbusy : s.busy with
      | true => exact .kept rfl
      | false =>
        cases hen : s.enabled with
        | true => exact .kept rfl
        | false => exact .configured (s.cfg.set w v) hbusy hen (by simp [State.control, hbusy])
  | wrOther size off v =>
    simp only [exec, execWrOther] at h
    split at h <;> cases h
    exact .kept rfl
  | rd size off =>
    cases h
    refine .kept ?_
    split <;> rfl
  | _ => cases hi

/-! ## Commands -/

theorem State.pushChunk_control (s : State) : s.pushChunk.control = s.control := by simp [State.control]
theorem State.goertzel_control (s : State) : s.goertzel.control = s.control := by simp [State.control]
theorem State.onset_control (s : State) : s.onset.control = s.control := by simp [State.control]
theorem State.tempo_control (s : State) : s.tempo.control = s.control := by simp [State.control]

/-- A hop touches the result bank only, and publishes it once. -/
theorem State.hop_control (s : State) :
    s.hop.control = { s.control with res := s.hop.res } ∧ s.hop.res.seq = s.res.seq + 1#32 := by
  refine ⟨by simp [State.control], ?_⟩
  show wrapIncr (s.pushChunk.goertzel.onset.tempo.countHop).res.seq = _
  simp [wrapIncr]

theorem State.complete_control {u : State} {c : Control} (h : u.control = c) :
    u.complete.control = { c with busy := false } := by
  rw [← h]; rfl

/-- Every command answers a completion; of the ten only COMMIT, HOP and SOFT_RESET touch the control fields besides. -/
theorem exec_completionMove {i : Instr} {s : State} (hi : i.opcode = some s.pendingCmd) :
    ∃ u : State, exec i s = .next u.complete ∧ CompletionMove s.control u.complete.control := by
  cases i with
  | nop => exact ⟨_, rfl, .completed rfl⟩
  | pushChunk =>
    refine ⟨_, rfl, .completed (State.complete_control ?_)⟩
    split
    · exact s.pushChunk_control
    · rfl
  | runGoertzel => exact ⟨_, rfl, .completed (State.complete_control s.goertzel_control)⟩
  | runOnset => exact ⟨_, rfl, .completed (State.complete_control s.onset_control)⟩
  | runTempo => exact ⟨_, rfl, .completed (State.complete_control s.tempo_control)⟩
  | commit => exact ⟨_, rfl, .published (.inl (Option.some.inj hi).symm) rfl rfl⟩
  | hop =>
    refine ⟨_, rfl, ?_⟩
    split
    · obtain ⟨hctl, hseq⟩ := s.hop_control
      exact .published (.inr (Option.some.inj hi).symm) hseq (State.complete_control hctl)
    · exact .completed rfl
  | skipHop => exact ⟨_, rfl, .completed rfl⟩
  | clearState => exact ⟨_, rfl, .completed rfl⟩
  | softReset => exact ⟨_, rfl, .wasReset (Option.some.inj hi).symm rfl⟩
  | _ => cases hi

/-! ## The step -/

theorem decode_pendingBytes_eq_ok_iff (s : State) (i : Instr) :
    decode s.pendingBytes = .ok i ↔ i.opcode = some s.pendingCmd := by
  rw [State.pendingBytes, decode_commandBytes, decodeCommand_setWidth_eq_ok_iff]

/-- A step does nothing, runs a host access, or completes the command in the latch. -/
theorem step_moves {s t : State} (h : step s = .next t) :
    AccessMove s.control t.control ∨ s.busy = true ∧ t.busy = false ∧ CompletionMove s.control t.control := by
  obtain ⟨rfl, -⟩ | ⟨ts, i, hbusy, hdec, hexec⟩ | ⟨r, rest, ts, i, -, hdec, hexec⟩ := step_cases h
  · exact .inl (.kept rfl)
  · obtain ⟨u, hu, hmove⟩ :=
      exec_completionMove (s := { s with turns := ts }) ((decode_pendingBytes_eq_ok_iff s i).mp hdec)
    rw [hexec] at hu
    cases hu
    exact .inr ⟨hbusy, rfl, hmove⟩
  · rw [decode_accessBytes] at hdec
    exact .inl (exec_accessMove (decodeAccess_ok hdec).1 hexec :)

/-! ## The configuration and the result bank -/

/-- Settles O58: of the moves only a configuration write and SOFT_RESET touch the configuration. -/
theorem configurationIsLockedWhileEnabled : Obligations.ConfigurationIsLockedWhileEnabled := by
  intro s t h hne
  obtain hmove | ⟨hbusy, -, hmove⟩ := step_moves h
  · cases hmove with
    | configured cfg hidle hoff heq => exact .inl ⟨hoff, hidle, (congrArg Control.enabled heq).trans hoff⟩
    | kept heq => exact absurd (congrArg Control.cfg heq) hne
    | accepted _ _ _ heq => exact absurd (congrArg Control.cfg heq) hne
    | disabled _ _ heq => exact absurd (congrArg Control.cfg heq) hne
    | enabled _ _ heq => exact absurd (congrArg Control.cfg heq) hne
  · cases hmove with
    | wasReset hop heq => exact .inr ⟨hbusy, hop, congrArg Control.enabled heq, congrArg Control.cfg heq⟩
    | completed heq => exact absurd (congrArg Control.cfg heq) hne
    | published _ _ heq => exact absurd (congrArg Control.cfg heq) hne

/-- No host access touches the result bank. -/
theorem AccessMove.res_eq {c d : Control} (h : AccessMove c d) : d.res = c.res := by
  cases h with
  | kept heq => rw [heq]
  | accepted _ _ _ heq => rw [heq]
  | disabled _ _ heq => rw [heq]
  | enabled _ _ heq => rw [heq]
  | configured _ _ _ heq => rw [heq]

/-- Settles O59: of the moves only the completion of COMMIT, HOP and SOFT_RESET touches the bank. -/
theorem resultBankChangesOnlyAtCommit : Obligations.ResultBankChangesOnlyAtCommit := by
  intro s t h hne
  obtain hmove | ⟨hbusy, hdone, hmove⟩ := step_moves h
  · exact absurd hmove.res_eq hne
  · refine ⟨hbusy, hdone, ?_⟩
    cases hmove with
    | completed heq => exact absurd (congrArg Control.res heq) hne
    | published hop hseq _ => exact .inl ⟨hop, hseq⟩
    | wasReset hop heq => exact .inr ⟨hop, congrArg Control.res heq⟩

/-! ## The latch and the lock -/

/-- `State.LatchLegal`, over the control fields. -/
def Control.LatchLegal (c : Control) : Prop :=
  c.busy = true → c.pendingCmd ≤ 0x09#8 ∧ (needsEnable c.pendingCmd = true → c.enabled = true)

/-- `State.ConfigChecked`, over the control fields. -/
def Control.ConfigChecked (c : Control) : Prop :=
  c.enabled = true → c.cfg.validate = none ∧ c.cfgFailAddr = 0xFFFFFFFF#32

theorem State.latchLegal_iff (s : State) : s.LatchLegal ↔ s.control.LatchLegal := .rfl
theorem State.configChecked_iff (s : State) : s.ConfigChecked ↔ s.control.ConfigChecked := .rfl

theorem Control.LatchLegal.of_idle {c : Control} (h : c.busy = false) : c.LatchLegal := fun hbusy => by
  rw [h] at hbusy
  cases hbusy

theorem Control.ConfigChecked.of_disabled {c : Control} (h : c.enabled = false) : c.ConfigChecked := fun hen => by
  rw [h] at hen
  cases hen

/-- Acceptance checks the opcode and ENABLE; CTRL and the configuration are written only with no command running. -/
theorem AccessMove.keepsLatchLegal {c d : Control} (h : AccessMove c d) (hc : c.LatchLegal) : d.LatchLegal := by
  cases h with
  | kept heq => exact heq ▸ hc
  | accepted op hlegal hen heq => rw [heq]; exact fun _ => ⟨hlegal, hen⟩
  | disabled hidle _ heq => rw [heq]; exact .of_idle hidle
  | enabled hidle _ heq => rw [heq]; exact .of_idle hidle
  | configured _ hidle _ heq => rw [heq]; exact .of_idle hidle

/-- ENABLE is set only over a configuration that passes its check, which is then written only once it is clear again. -/
theorem AccessMove.keepsConfigChecked {c d : Control} (h : AccessMove c d) (hc : c.ConfigChecked) :
    d.ConfigChecked := by
  cases h with
  | kept heq => exact heq ▸ hc
  | accepted _ _ _ heq => rw [heq]; exact hc
  | disabled _ hoff _ => exact .of_disabled hoff
  | enabled _ hvalid heq => rw [heq]; exact fun _ => ⟨hvalid, rfl⟩
  | configured _ _ hoff heq => rw [heq]; exact .of_disabled hoff

theorem CompletionMove.keepsConfigChecked {c d : Control} (h : CompletionMove c d) (hc : c.ConfigChecked) :
    d.ConfigChecked := by
  cases h with
  | completed heq => rw [heq]; exact hc
  | published _ _ heq => rw [heq]; exact hc
  | wasReset _ heq => rw [heq]; exact .of_disabled rfl

theorem step_keepsLatchLegal {s t : State} (h : step s = .next t) (hs : s.LatchLegal) : t.LatchLegal := by
  rw [State.latchLegal_iff] at hs ⊢
  obtain hmove | ⟨-, hidle, -⟩ := step_moves h
  · exact hmove.keepsLatchLegal hs
  · exact .of_idle hidle

theorem step_keepsConfigChecked {s t : State} (h : step s = .next t) (hs : s.ConfigChecked) : t.ConfigChecked := by
  rw [State.configChecked_iff] at hs ⊢
  obtain hmove | ⟨-, -, hmove⟩ := step_moves h
  · exact hmove.keepsConfigChecked hs
  · exact hmove.keepsConfigChecked hs

end Sys2Proof.Machine
end

section
/-! The codes of the errors (60_exceptions.md R175): raising any error leaves a legal code, whatever was there before, and
everything else that touches ERR clears bits of it. -/

namespace Sys2Proof.Machine

/-! ## Raising an error -/

theorem Err.code_legal (e : Err) : e.code ≤ 11#5 ∧ e.code ≠ 0#5 := by cases e <;> decide

theorem State.codesLegal_of_lastCode {s : State} {e : Err} (h : s.lastCode = e.code) : s.CodesLegal := by
  obtain ⟨hle, hne⟩ := e.code_legal
  refine ⟨h ▸ hle, fun hzero => ?_⟩
  exact absurd (h.symm.trans hzero) hne

theorem State.raiseErr_codesLegal (s : State) (e : Err) : (s.raiseErr e).CodesLegal := State.codesLegal_of_lastCode rfl

theorem State.reset_codesLegal : State.reset.CodesLegal := ⟨by decide, fun _ => rfl⟩

theorem State.numfault_codesLegal (s : State) : s.numfault.CodesLegal := State.codesLegal_of_lastCode rfl

section
variable {s t : State}

theorem State.CodesLegal.of_eq (h : s.CodesLegal) (herr : t.err = s.err) (hcode : t.lastCode = s.lastCode) :
    t.CodesLegal := by
  unfold State.CodesLegal
  rw [herr, hcode]
  exact h

theorem State.CodesLegal.ite_raiseErr {c : Prop} [Decidable c] {e : Err} (h : t.CodesLegal) :
    (if c then s.raiseErr e else t).CodesLegal := by
  split
  · exact s.raiseErr_codesLegal e
  · exact h

theorem State.CodesLegal.numfaultIf (h : s.CodesLegal) (b : Bool) : (s.numfaultIf b).CodesLegal := by
  cases b with
  | false => exact h
  | true => exact s.numfault_codesLegal

theorem State.CodesLegal.numfaults (h : s.CodesLegal) (n : Nat) : (s.numfaults n).CodesLegal := by
  induction n generalizing s with
  | zero => exact h
  | succ n ih => exact ih s.numfault_codesLegal

/-! ## The stages of a hop -/

theorem State.CodesLegal.pushChunk (h : s.CodesLegal) : s.pushChunk.CodesLegal :=
  h.of_eq s.pushChunk_err s.pushChunk_lastCode

theorem State.CodesLegal.storeLanes (h : s.CodesLegal) (l : Vector BinLane 64) : (s.storeLanes l).CodesLegal := by
  unfold State.storeLanes
  apply State.CodesLegal.numfaults
  exact h.of_eq rfl rfl

theorem State.CodesLegal.goertzel (h : s.CodesLegal) : s.goertzel.CodesLegal := by
  unfold State.goertzel
  exact (h.storeLanes s.binLanes).of_eq (by rw [State.smooth_err, State.normalise_err])
    (by rw [State.smooth_lastCode, State.normalise_lastCode])

theorem State.CodesLegal.onset (h : s.CodesLegal) : s.onset.CodesLegal := by
  unfold State.onset
  extract_lets
  iterate 4 apply State.CodesLegal.numfaultIf
  exact h.of_eq rfl rfl

theorem State.CodesLegal.tempoOscillators (h : s.CodesLegal) : s.tempoOscillators.CodesLegal := by
  unfold State.tempoOscillators
  extract_lets
  apply State.CodesLegal.numfaults
  exact h.of_eq rfl rfl

theorem State.CodesLegal.tempoPower (h : s.CodesLegal) : s.tempoPower.CodesLegal :=
  h.of_eq s.tempoPower_err s.tempoPower_lastCode

theorem State.CodesLegal.tempoConfidence (h : s.CodesLegal) : s.tempoConfidence.CodesLegal := by
  unfold State.tempoConfidence
  split
  · dsimp only
    split
    · exact h.of_eq rfl rfl
    · exact s.numfault_codesLegal
  · exact h.of_eq rfl rfl

theorem State.CodesLegal.tempoContrib (h : s.CodesLegal) : s.tempoContrib.CodesLegal := by
  unfold State.tempoContrib
  apply State.CodesLegal.numfaults
  exact h.of_eq rfl rfl

theorem State.CodesLegal.tempoBpm (h : s.CodesLegal) : s.tempoBpm.CodesLegal := by
  unfold State.tempoBpm
  split
  · split
    · exact h.of_eq rfl rfl
    · exact State.raiseErr_codesLegal _ _
  · exact h

theorem State.CodesLegal.tempoPhase (h : s.CodesLegal) (e : Nat) : (s.tempoPhase e).CodesLegal := by
  unfold State.tempoPhase
  split
  · split
    · exact h.of_eq rfl rfl
    · exact s.numfault_codesLegal
  · exact h

theorem State.CodesLegal.tempo (h : s.CodesLegal) : s.tempo.CodesLegal := by
  have hphase := h.tempoOscillators.tempoPower.tempoConfidence.tempoContrib.tempoBpm.tempoPhase (elapsedHops s.dyn)
  exact hphase.of_eq (State.tempoLock_err _) (State.tempoLock_lastCode _)

theorem State.CodesLegal.hop (h : s.CodesLegal) : s.hop.CodesLegal :=
  h.pushChunk.goertzel.onset.tempo.of_eq rfl rfl

/-! ## The shared operations -/

theorem State.CodesLegal.complete (h : s.CodesLegal) : s.complete.CodesLegal :=
  h.of_eq s.complete_err s.complete_lastCode

theorem State.CodesLegal.ackErr (h : s.CodesLegal) (v : Word) : (s.ackErr v).CodesLegal := by
  obtain ⟨hle, hzero⟩ := h
  refine ⟨hle, fun hcode => ?_⟩
  rw [State.ackErr_err, hzero hcode, BitVec.zero_and]

theorem State.CodesLegal.accept (h : s.CodesLegal) (v : Word) : (s.accept v).CodesLegal := by
  obtain ⟨-, heq⟩ | ⟨-, -, heq⟩ | ⟨-, -, -, -, -, heq⟩ | ⟨-, -, -, -, heq⟩ := s.accept_cases v
  · exact State.codesLegal_of_lastCode (congrArg State.lastCode heq)
  · exact State.codesLegal_of_lastCode (congrArg State.lastCode heq)
  · exact State.codesLegal_of_lastCode (congrArg State.lastCode heq)
  · exact h.of_eq (by rw [heq]) (by rw [heq])

theorem State.CodesLegal.stageOne (h : s.CodesLegal) (x : BitVec 16) : (s.stageOne x).CodesLegal := by
  unfold State.stageOne
  split
  · exact h.of_eq rfl rfl
  · exact s.raiseErr_codesLegal _

theorem State.CodesLegal.writeCtrlEnabled (h : s.CodesLegal) (v : Word) : (s.writeCtrlEnabled v).CodesLegal := by
  have hmode : (if modeField v ≠ s.modeBits then s.raiseErr .cfgLocked else s).CodesLegal := .ite_raiseErr h
  unfold State.writeCtrlEnabled
  dsimp only
  generalize (if modeField v ≠ s.modeBits then s.raiseErr .cfgLocked else s) = u at hmode ⊢
  split
  · exact hmode
  · exact hmode.of_eq rfl rfl

theorem State.CodesLegal.writeCtrlDisabled (h : s.CodesLegal) (v : Word) : (s.writeCtrlDisabled v).CodesLegal := by
  unfold State.writeCtrlDisabled
  split
  · obtain ⟨-, heq⟩ | ⟨w, -, heq⟩ := State.tryEnable_cases { s with ctrl := ctrlOf (modeField v) false }
    · exact h.of_eq (by rw [heq]; rfl) (by rw [heq]; rfl)
    · exact State.codesLegal_of_lastCode (congrArg State.lastCode heq)
  · exact h.of_eq rfl rfl

/-! ## Every instruction, and the step -/

theorem exec_keepsCodesLegal {i : Instr} (h : exec i s = .next t) (hs : s.CodesLegal) : t.CodesLegal := by
  cases i with
  | nop => cases h; exact hs.complete
  | pushChunk =>
    cases h
    apply State.CodesLegal.complete
    split
    · exact hs.pushChunk
    · exact s.raiseErr_codesLegal _
  | runGoertzel => cases h; exact hs.goertzel.complete
  | runOnset => cases h; exact hs.onset.complete
  | runTempo => cases h; exact hs.tempo.complete
  | commit => cases h; exact hs.of_eq rfl rfl
  | hop =>
    cases h
    apply State.CodesLegal.complete
    split
    · exact hs.hop
    · exact s.raiseErr_codesLegal _
  | skipHop => cases h; exact hs.of_eq rfl rfl
  | clearState => cases h; exact hs.of_eq rfl rfl
  | softReset => cases h; exact State.reset_codesLegal.of_eq rfl rfl
  | wrCtrl v =>
    cases h
    apply State.CodesLegal.ite_raiseErr
    split
    · exact hs.writeCtrlEnabled v
    · exact hs.writeCtrlDisabled v
  | wrCmd v => cases h; exact hs.accept v
  | wrStatus v => cases h; exact hs.of_eq rfl rfl
  | wrErr v => cases h; exact hs.ackErr v
  | wrIrqEn v => cases h; exact hs.of_eq rfl rfl
  | wrSampleIn v => cases h; exact .ite_raiseErr (.ite_raiseErr (hs.stageOne _))
  | wrSamplePair v => cases h; exact .ite_raiseErr (.ite_raiseErr ((hs.stageOne _).stageOne _))
  | wrRuntime off v =>
    simp only [exec, execWrRuntime] at h
    split at h
    · cases h; exact .ite_raiseErr (hs.of_eq rfl rfl)
    · split at h
      · cases h; exact .ite_raiseErr (hs.of_eq rfl rfl)
      · cases h
  | wrCfg off v =>
    simp only [exec, execWrCfg] at h
    split at h
    · cases h
    · cases h; exact .ite_raiseErr (.ite_raiseErr (hs.of_eq rfl rfl))
  | wrOther size off v =>
    simp only [exec, execWrOther] at h
    split at h <;> cases h
    exact s.raiseErr_codesLegal _
  | rd size off =>
    cases h
    split <;> exact hs.of_eq rfl rfl

end

theorem step_keepsCodesLegal {s t : State} (h : step s = .next t) (hs : s.CodesLegal) : t.CodesLegal := by
  obtain ⟨rfl, -⟩ | ⟨ts, i, -, -, hexec⟩ | ⟨r, rest, ts, i, -, -, hexec⟩ := step_cases h
  · exact hs
  · exact exec_keepsCodesLegal hexec (hs.of_eq rfl rfl)
  · exact exec_keepsCodesLegal hexec (hs.of_eq rfl rfl)

/-- Settles O55: one lemma per invariant. -/
theorem stepKeepsTheControlInvariants : Obligations.StepKeepsTheControlInvariants := fun _ _ h =>
  ⟨step_keepsLatchLegal h, step_keepsConfigChecked h, step_keepsCodesLegal h⟩

end Sys2Proof.Machine
end

section
/-! An accepted command completes (40_sequencer.md R121): each host access that runs before it uses up one turn and leaves
the latch as it is, and when no turn of the host's is left the engine moves. -/

namespace Sys2Proof.Machine

/-! ## The two kinds of step while a command runs -/

/-- `t` is `s` but for what a host access may change while a command runs (70_reset_and_hazards.md R194). -/
def State.SameOperands (s t : State) : Prop :=
  t = { s with done := t.done, onsetEvt := t.onsetEvt, err := t.err, lastCode := t.lastCode, irqEn := t.irqEn,
               draws := t.draws, readData := t.readData }

/-- While a command runs no access is refused and none changes an operand: a write that would is answered with an error. -/
theorem exec_access_of_busy {i : Instr} {s : State} (hi : i.opcode = none) (hwf : i.wf = true) (hbusy : s.busy = true) :
    ∃ t, exec i s = .next t ∧ s.SameOperands t := by
  cases i with
  | wrCtrl v => exact ⟨s.raiseErr .busyWrite, by simp only [exec, execWrCtrl, if_pos hbusy], rfl⟩
  | wrCmd v => exact ⟨s.raiseErr .cmdBusy, by simp only [exec, execWrCmd, State.accept, if_pos hbusy], rfl⟩
  | wrStatus v => exact ⟨_, rfl, rfl⟩
  | wrErr v => exact ⟨_, rfl, rfl⟩
  | wrIrqEn v => exact ⟨_, rfl, rfl⟩
  | wrSampleIn v => exact ⟨s.raiseErr .busyWrite, by simp only [exec, execWrSampleIn, if_pos hbusy], rfl⟩
  | wrSamplePair v => exact ⟨s.raiseErr .busyWrite, by simp only [exec, execWrSamplePair, if_pos hbusy], rfl⟩
  | wrRuntime off v =>
    refine ⟨s.raiseErr .busyWrite, ?_, rfl⟩
    simp only [exec, execWrRuntime, if_pos hbusy]
    split
    · rfl
    next hdc =>
      have hnov : off = novInjectOff := by simpa [Instr.wf, isRuntimeOffset, hdc] using hwf
      rw [if_pos hnov]
  | wrCfg off v =>
    obtain ⟨w, hw⟩ := Option.isSome_iff_exists.mp hwf
    exact ⟨s.raiseErr .busyWrite, by simp only [exec, execWrCfg, hw, if_pos hbusy], rfl⟩
  | wrOther size off v =>
    refine ⟨s.raiseErr .busyWrite, ?_, rfl⟩
    have hnamed : ¬ (size = .word ∧ isNamedWrite off = true) := by
      rintro ⟨rfl, hnamed⟩
      simp [Instr.wf, hnamed] at hwf
    simp only [exec, execWrOther, if_neg hnamed, if_pos hbusy]
  | rd size off =>
    refine ⟨_, rfl, ?_⟩
    split <;> rfl
  | _ => cases hi

/-- When the engine moves, the command in a legal latch completes. -/
theorem step_of_engine_turn {s : State} {ts : List Agent} (hlatch : s.LatchLegal) (hbusy : s.busy = true)
    (hfetch : s.fetch = .engine s.pendingBytes { s with turns := ts }) :
    ∃ t, step s = .next t ∧ t.busy = false ∧ t.done = true := by
  obtain ⟨i, hdec, -⟩ := decode_pendingBytes (hlatch hbusy).1
  obtain ⟨u, hu, -⟩ :=
    exec_completionMove (s := { s with turns := ts }) ((decode_pendingBytes_eq_ok_iff s i).mp hdec)
  exact ⟨u.complete, (step_of_fetch_engine hfetch hdec).trans hu, rfl, rfl⟩

/-- When the host moves, its access `r` uses up the turn and leaves the command running. -/
theorem step_of_host_turn {s : State} {r : BitVec 64} {rest : List (BitVec 64)} {ts : List Agent} {i : Instr}
    (hbusy : s.busy = true) (hport : s.port = r :: rest) (hturns : s.turns = .host :: ts)
    (hdec : decode (accessBytes r) = .ok i) :
    ∃ t, step s = .next t ∧ t.busy = true ∧ t.port = rest ∧ t.turns = ts := by
  obtain ⟨hi, hwf⟩ := decodeAccess_ok ((decode_accessBytes r).symm.trans hdec)
  obtain ⟨t, hexec, hsame⟩ := exec_access_of_busy (s := { s with port := rest, turns := ts }) hi hwf hbusy
  exact ⟨t, (step_of_fetch_host (State.fetch_host_of_turn hbusy hport hturns) hdec).trans hexec,
    (congrArg State.busy hsame).trans hbusy, congrArg State.port hsame, congrArg State.turns hsame⟩

/-! ## Runs -/

/-- Within `n` steps the machine is in a state whose command has completed. -/
def State.CompletesWithin (s : State) (n : Nat) : Prop :=
  ∃ k, k ≤ n ∧ ∃ t, Host.Core.run core k s = .next t ∧ t.busy = false ∧ t.done = true

theorem run_succ {s t : State} (h : step s = .next t) (k : Nat) :
    Host.Core.run core (k + 1) s = Host.Core.run core k t := by
  have hcore : core.step s = .next t := h
  simp only [Host.Core.run, hcore]

theorem State.CompletesWithin.of_step {s t : State} {n : Nat} (h : step s = .next t) (ht : t.CompletesWithin n) :
    s.CompletesWithin (n + 1) := by
  obtain ⟨k, hk, u, hrun, hu⟩ := ht
  exact ⟨k + 1, Nat.succ_le_succ hk, u, (run_succ h k).trans hrun, hu⟩

theorem State.CompletesWithin.of_engine_turn {s : State} {ts : List Agent} (n : Nat) (hlatch : s.LatchLegal)
    (hbusy : s.busy = true) (hfetch : s.fetch = .engine s.pendingBytes { s with turns := ts }) :
    s.CompletesWithin (n + 1) := by
  obtain ⟨t, hstep, ht⟩ := step_of_engine_turn hlatch hbusy hfetch
  exact .of_step hstep ⟨0, Nat.zero_le n, t, rfl, ht⟩

/-- By induction on the moves the order still holds: only the host's moves with an access to issue come before the
completion. -/
theorem completesWithin_of_turns (ts : List Agent) {s : State} (hturns : s.turns = ts) (hlatch : s.LatchLegal)
    (hbusy : s.busy = true) (hport : ∀ r ∈ s.port, ∃ i, decode (accessBytes r) = .ok i) :
    s.CompletesWithin (ts.length + 1) := by
  induction ts generalizing s with
  | nil => exact .of_engine_turn _ hlatch hbusy (State.fetch_engine_of_turns_nil hbusy hturns)
  | cons agent ts ih =>
    cases hlist : s.port with
    | nil => exact .of_engine_turn _ hlatch hbusy (State.fetch_engine_of_port_nil hbusy hlist)
    | cons r rest =>
      cases agent with
      | engine =>
        exact .of_engine_turn _ hlatch hbusy (State.fetch_engine_of_turn hbusy (hlist ▸ List.cons_ne_nil r rest) hturns)
      | host =>
        rw [hlist, List.forall_mem_cons] at hport
        obtain ⟨⟨i, hdec⟩, hrest⟩ := hport
        obtain ⟨t, hstep, htbusy, htport, htturns⟩ := step_of_host_turn hbusy hlist hturns hdec
        exact .of_step hstep (ih htturns (step_keepsLatchLegal hstep hlatch) htbusy (htport ▸ hrest))

/-- Settles O7: the order's moves bound the steps. -/
theorem acceptedCommandCompletes : Obligations.AcceptedCommandCompletes := fun _ hlatch hbusy hport =>
  completesWithin_of_turns _ rfl hlatch hbusy hport

end Sys2Proof.Machine
end

section
/-! Encoding (30_encoding.md R110 to R114): a bus record is taken apart into the fields it was put together from and put
together again from its fields, a word write is told from its offset, and a command from its opcode. -/

namespace Sys2Proof

/-! ## The fields of a bus record (notes/assumptions/3.md) -/

/-- The record with these fields; `writeRecord` and `readRecord` are the two that an access lays out. -/
def accessRecord (data : Word) (size : AccessSize) (dir : BitVec 1) (off : Offset) : BitVec 64 :=
  data ++ 0#13 ++ codeOfSize size ++ dir ++ off

theorem writeRecord_eq (size : AccessSize) (off : Offset) (v : Word) :
    writeRecord size off v = accessRecord v size 0#1 off := rfl

theorem readRecord_eq (size : AccessSize) (off : Offset) : readRecord size off = accessRecord 0#32 size 1#1 off := rfl

section
variable (data : Word) (size : AccessSize) (dir : BitVec 1) (off : Offset)

theorem recordOffset_accessRecord : recordOffset (accessRecord data size dir off) = off :=
  BitVec.extractLsb'_append_eq_right

theorem recordRead_accessRecord : recordRead (accessRecord data size dir off) = dir.getLsbD 0 := by
  rw [recordRead, accessRecord, BitVec.getLsbD_append, if_neg (by decide), BitVec.getLsbD_append, if_pos (by decide)]

theorem recordWidth_accessRecord : recordWidth (accessRecord data size dir off) = codeOfSize size := by
  rw [recordWidth, accessRecord, BitVec.extractLsb'_append_eq_of_le (by decide),
    BitVec.extractLsb'_append_eq_of_le (by decide)]
  exact BitVec.extractLsb'_append_eq_right

theorem recordZero_accessRecord : recordZero (accessRecord data size dir off) = 0#13 := by
  rw [recordZero, accessRecord, BitVec.extractLsb'_append_eq_of_le (by decide),
    BitVec.extractLsb'_append_eq_of_le (by decide), BitVec.extractLsb'_append_eq_of_le (by decide)]
  exact BitVec.extractLsb'_append_eq_right

theorem recordData_accessRecord : recordData (accessRecord data size dir off) = data := by
  rw [recordData, accessRecord, BitVec.extractLsb'_append_eq_of_le (by decide),
    BitVec.extractLsb'_append_eq_of_le (by decide), BitVec.extractLsb'_append_eq_of_le (by decide),
    BitVec.extractLsb'_append_eq_of_le (by decide)]
  exact BitVec.extractLsb'_eq_self

end

theorem sizeOfCode_eq_some_iff (c : BitVec 2) (size : AccessSize) : sizeOfCode c = some size ↔ c = codeOfSize size := by
  revert c
  cases size <;> decide

/-- A record whose zero bits are zero is put together again from its fields. -/
theorem accessRecord_of_fields {r : BitVec 64} {size : AccessSize} (hzero : recordZero r = 0#13)
    (hsize : recordWidth r = codeOfSize size) :
    accessRecord (recordData r) size (r.extractLsb' 16 1) (recordOffset r) = r := by
  rw [accessRecord, ← hzero, ← hsize, recordData, recordZero, recordWidth, recordOffset,
    BitVec.extractLsb'_append_extractLsb'_eq_extractLsb' (show 32 = 19 + 13 from rfl),
    BitVec.extractLsb'_append_extractLsb'_eq_extractLsb' (show 19 = 17 + 2 from rfl),
    BitVec.extractLsb'_append_extractLsb'_eq_extractLsb' (show 17 = 16 + 1 from rfl),
    BitVec.extractLsb'_append_extractLsb'_eq_extractLsb' (show 16 = 0 + 16 from rfl)]
  exact BitVec.extractLsb'_eq_self

theorem extract_dir_eq (r : BitVec 64) : r.extractLsb' 16 1 = BitVec.ofBool (recordRead r) := by
  ext i hi
  obtain rfl : i = 0 := by omega
  simp [recordRead]

/-! ## Accesses -/

theorem decode_writeRecord (size : AccessSize) (off : Offset) (v : Word) :
    decode (accessBytes (writeRecord size off v)) = .ok (decodeWrite size off v) := by
  rw [decode_accessBytes, writeRecord_eq, decodeAccess, recordZero_accessRecord, recordWidth_accessRecord,
    (sizeOfCode_eq_some_iff _ size).mpr rfl, recordRead_accessRecord, recordOffset_accessRecord,
    recordData_accessRecord]
  rfl

theorem decode_readRecord (size : AccessSize) (off : Offset) :
    decode (accessBytes (readRecord size off)) = .ok (.rd size off) := by
  rw [decode_accessBytes, readRecord_eq, decodeAccess, recordZero_accessRecord, recordWidth_accessRecord,
    (sizeOfCode_eq_some_iff _ size).mpr rfl, recordRead_accessRecord, recordOffset_accessRecord,
    recordData_accessRecord]
  rfl

/-- Every configuration offset lies above the registers that the rows of R114 before WR_CFG name. -/
theorem toNat_ge_of_isCfgOffset {off : Offset} (h : Machine.isCfgOffset off = true) : 0x80 ≤ off.toNat := by
  obtain ⟨w, hw⟩ := Option.isSome_iff_exists.mp h
  rw [Machine.cfgAt_answersAt _ w hw]
  exact w.offset_ge

theorem decodeWordWrite_runtime {off : Offset} (v : Word) (h : Machine.isRuntimeOffset off = true) :
    decodeWordWrite off v = .wrRuntime off v := by
  have hoff : off = Machine.dcOffsetOff ∨ off = Machine.novInjectOff := by simpa [Machine.isRuntimeOffset] using h
  obtain rfl | rfl := hoff <;> rfl

theorem decodeWordWrite_cfg {off : Offset} (v : Word) (h : Machine.isCfgOffset off = true) :
    decodeWordWrite off v = .wrCfg off v := by
  have hge := toNat_ge_of_isCfgOffset h
  have hne {named : Offset} (hlow : named.toNat < 0x80) : off ≠ named := fun heq => by
    rw [heq] at hge
    omega
  simp (disch := decide) [decodeWordWrite, Machine.isRuntimeOffset, h, hne]

theorem decodeWordWrite_other {off : Offset} (v : Word) (h : Machine.isNamedWrite off = false) :
    decodeWordWrite off v = .wrOther .word off v := by
  simp only [Machine.isNamedWrite, Bool.or_eq_false_iff, beq_eq_false_iff_ne] at h
  simp [decodeWordWrite, h]

/-- A write is laid out with the offset its row of R114 names. -/
theorem encode_decodeWordWrite (off : Offset) (v : Word) :
    encode (decodeWordWrite off v) = accessBytes (writeRecord .word off v) := by
  unfold decodeWordWrite
  split_ifs with hctrl hcmd hstatus herr hirq hsample hpair
  · rw [hctrl]; rfl
  · rw [hcmd]; rfl
  · rw [hstatus]; rfl
  · rw [herr]; rfl
  · rw [hirq]; rfl
  · rw [hsample]; rfl
  · rw [hpair]; rfl
  iterate 3 rfl

theorem encode_decodeWrite (size : AccessSize) (off : Offset) (v : Word) :
    encode (decodeWrite size off v) = accessBytes (writeRecord size off v) := by
  cases size with
  | word => exact encode_decodeWordWrite off v
  | byte => rfl
  | half => rfl

/-- A record that decodes is the encoding of its access: none of its bits is ignored. -/
theorem encode_of_decodeAccess {r : BitVec 64} {i : Instr} (h : decodeAccess r = .ok i) : encode i = accessBytes r := by
  unfold decodeAccess at h
  split at h
  · cases h
  next hzero =>
    split at h
    · cases h
    next size hsize =>
      have hr := accessRecord_of_fields (not_not.mp hzero) ((sizeOfCode_eq_some_iff _ size).mp hsize)
      rw [extract_dir_eq] at hr
      split at h
      next hread =>
        split at h <;> cases h
        next hdata =>
        rw [hread, hdata] at hr
        exact congrArg accessBytes hr
      next hread =>
        cases h
        rw [Bool.not_eq_true] at hread
        rw [hread] at hr
        rw [encode_decodeWrite]
        exact congrArg accessBytes hr

/-! ## Commands -/

/-- A command is encoded as the command word `zext_32(OP)` of its opcode (30_encoding.md R111, R112). -/
theorem encode_of_opcode {i : Instr} {op : BitVec 8} (h : i.opcode = some op) :
    encode i = commandBytes (op.setWidth 32) := by
  cases i <;> cases h <;> rfl

theorem decode_encode_of_opcode {i : Instr} {op : BitVec 8} (h : i.opcode = some op) : decode (encode i) = .ok i := by
  rw [encode_of_opcode h, decode_commandBytes]
  exact (decodeCommand_setWidth_eq_ok_iff op i).mpr h

/-- With MBZ = 0 a command word is its opcode, zero-extended (30_encoding.md R111). -/
theorem setWidth_op_of_mbz {w : Word} (h : w.extractLsb' 8 24 = 0#24) : (w.extractLsb' 0 8).setWidth 32 = w := by
  have hsplit : w.extractLsb' 8 24 ++ w.extractLsb' 0 8 = w :=
    (BitVec.extractLsb'_append_extractLsb'_eq_extractLsb' rfl).trans BitVec.extractLsb'_eq_self
  rw [h] at hsplit
  rw [BitVec.setWidth_eq_append (by decide)]
  exact hsplit

/-- A command word is a legal opcode under MBZ = 0, or it is refused (30_encoding.md R111, R113). -/
theorem decodeCommand_cases (w : Word) :
    (w.extractLsb' 8 24 = 0#24 ∧ ∃ i, i.opcode = some (w.extractLsb' 0 8) ∧ decodeCommand w = .ok i) ∨
    ((w.extractLsb' 8 24 ≠ 0#24 ∨ ∀ i : Instr, i.opcode ≠ some (w.extractLsb' 0 8)) ∧
      decodeCommand w = .error (.reservedCommand w)) := by
  unfold decodeCommand
  by_cases hmbz : w.extractLsb' 8 24 = 0#24
  · rw [if_neg (not_not.mpr hmbz)]
    cases hop : decodeOp (w.extractLsb' 0 8).toNat with
    | some i => exact .inl ⟨hmbz, i, (decodeOp_eq_some_iff _ _).mp hop, rfl⟩
    | none =>
      refine .inr ⟨.inr fun i hi => ?_, rfl⟩
      rw [(decodeOp_eq_some_iff _ _).mpr hi] at hop
      cases hop
  · exact .inr ⟨.inl hmbz, if_pos hmbz⟩

theorem wf_of_opcode {i : Instr} {op : BitVec 8} (h : i.opcode = some op) : i.WellFormed := by
  cases i with
  | wrRuntime off v => cases h
  | wrCfg off v => cases h
  | wrOther size off v => cases h
  | _ => rfl

theorem encode_of_decodeCommand {w : Word} {i : Instr} (h : decodeCommand w = .ok i) :
    i.WellFormed ∧ encode i = commandBytes w := by
  obtain ⟨hmbz, j, hop, hdec⟩ | ⟨-, hdec⟩ := decodeCommand_cases w
  · rw [hdec] at h
    cases h
    refine ⟨wf_of_opcode hop, ?_⟩
    rw [encode_of_opcode hop, setWidth_op_of_mbz hmbz]
  · rw [hdec] at h
    cases h

/-- The ten opcodes are those up to `0x09` (30_encoding.md R112). -/
theorem exists_opcode_iff (op : BitVec 8) : (∃ i : Instr, i.opcode = some op) ↔ op ≤ 0x09#8 := by
  constructor
  · rintro ⟨i, hi⟩
    cases i <;> cases hi <;> decide
  · intro hle
    obtain ⟨i, hi, -⟩ :=
      (Option.any_eq_true ..).mp (Machine.decode_opcode ⟨op.toNat, Nat.lt_succ_of_le hle⟩)
    exact ⟨i, (decodeOp_eq_some_iff op i).mp hi⟩

/-! ## Bytes (20_memory.md R98) -/

theorem bytesOf_numberOf (bs : List Byte) : bytesOf bs.length (numberOf bs) = bs := by
  induction bs with
  | nil => rfl
  | cons b bs ih =>
    have hlt := b.isLt
    have hlow : BitVec.ofNat 8 (b.toNat + 256 * numberOf bs) = b := by
      apply BitVec.eq_of_toNat_eq
      rw [BitVec.toNat_ofNat]
      omega
    have hhigh : (b.toNat + 256 * numberOf bs) / 256 = numberOf bs := by omega
    rw [List.length_cons, numberOf, bytesOf, hlow, hhigh, ih]

theorem numberOf_lt (bs : List Byte) : numberOf bs < 256 ^ bs.length := by
  have hbytes := numberOf_bytesOf bs.length (numberOf bs)
  rw [bytesOf_numberOf] at hbytes
  rw [hbytes]
  exact Nat.mod_lt _ (by positivity)

theorem bytesOf_ofNat_numberOf {bs : List Byte} {n k : Nat} (hlen : bs.length = n) (hk : 256 ^ n = 2 ^ k) :
    bytesOf n (BitVec.ofNat k (numberOf bs)).toNat = bs := by
  have hlt := numberOf_lt bs
  rw [hlen, hk] at hlt
  rw [BitVec.toNat_ofNat, Nat.mod_eq_of_lt hlt, ← hlen, bytesOf_numberOf]

/-! ## The statements -/

/-- Settles O1: a command by its opcode, a bus access by the fields of its record. -/
theorem decodeEncodeRoundTrip : Obligations.DecodeEncodeRoundTrip := by
  intro i hwf
  cases i with
  | wrCtrl v => exact decode_writeRecord .word _ v
  | wrCmd v => exact decode_writeRecord .word _ v
  | wrStatus v => exact decode_writeRecord .word _ v
  | wrErr v => exact decode_writeRecord .word _ v
  | wrIrqEn v => exact decode_writeRecord .word _ v
  | wrSampleIn v => exact decode_writeRecord .word _ v
  | wrSamplePair v => exact decode_writeRecord .word _ v
  | wrRuntime off v =>
    exact (decode_writeRecord .word off v).trans (congrArg _ (decodeWordWrite_runtime v hwf))
  | wrCfg off v =>
    exact (decode_writeRecord .word off v).trans (congrArg _ (decodeWordWrite_cfg v hwf))
  | wrOther size off v =>
    refine (decode_writeRecord size off v).trans (congrArg _ ?_)
    cases size with
    | word => exact decodeWordWrite_other v (by simpa only [Instr.WellFormed, Instr.wf, Bool.not_eq_true'] using hwf)
    | byte => rfl
    | half => rfl
  | rd size off => exact decode_readRecord size off
  | _ => exact decode_encode_of_opcode rfl

/-- Settles O2: four bytes by their opcode, eight by the fields of their record. -/
theorem decodedBytesAreTheEncoding : Obligations.DecodedBytesAreTheEncoding := by
  intro bs i h
  unfold decode at h
  split at h
  next hlen =>
    obtain ⟨hwf, henc⟩ := encode_of_decodeCommand h
    exact ⟨hwf, henc.trans (bytesOf_ofNat_numberOf hlen rfl)⟩
  next =>
    split at h
    next hlen =>
      exact ⟨(decodeAccess_ok h).2, (encode_of_decodeAccess h).trans (bytesOf_ofNat_numberOf hlen rfl)⟩
    · cases h

/-- Settles O3: the decoder is run on each of the eight words. -/
theorem writtenOutWordsDecode : Obligations.WrittenOutWordsDecode := by
  unfold Obligations.WrittenOutWordsDecode
  decide

/-- Settles O4: the words that are refused are those whose opcode or MBZ is not a command's, and acceptance tests the
same two fields. -/
theorem reservedCommandWordsAreIllegal : Obligations.ReservedCommandWordsAreIllegal := by
  intro w
  refine ⟨?_, fun hres s hidle => ?_⟩
  · have hop : (∀ i : Instr, i.opcode ≠ some (w.extractLsb' 0 8)) ↔ 0x09#8 < w.extractLsb' 0 8 := by
      rw [← not_exists, exists_opcode_iff, BitVec.not_le]
    rw [decode_commandBytes, ← hop]
    obtain ⟨hmbz, i, hi, hdec⟩ | ⟨hres, hdec⟩ := decodeCommand_cases w
    · rw [hdec]
      refine iff_of_false (by simp) ?_
      rintro (hne | hnone)
      · exact hne hmbz
      · exact hnone i hi
    · exact iff_of_true hdec hres
  · have haccept : s.accept w = { s.raiseErr .illegalCmd with done := true } := by
      rw [Machine.State.accept, hidle, if_neg Bool.false_ne_true]
      exact if_pos hres
    exact congrArg Host.Outcome.next haccept

end Sys2Proof
end

section
/-! Bounds of computed numbers (00_scope.md R16): rounding to nearest is monotone and keeps what is representable, so between
two representable bounds of the exact value lies the rounded one. Bounds are counted in units of 2^-149: 1.0 is `2 ^ 149`. -/

namespace Sys2Proof.Machine

/-! ## Values between bounds -/

/-- `x` is no NaN and lies between the bounds. -/
def F32.InRange (lo hi : Int) (x : F32) : Prop := x.ordered = true ∧ lo ≤ x.rank ∧ x.rank ≤ hi

/-- `x` is finite and not below zero. -/
def F32.Nonneg (x : F32) : Prop := x.finite = true ∧ 0 ≤ x.rank

/-- Some finite value has this rank. -/
def RepInt (z : Int) : Prop := RepUnits z.natAbs

theorem F32.ordered_of_finite {x : F32} (h : x.finite = true) : x.ordered = true := by
  cases x with
  | fin s n => rfl
  | _ => cases h

theorem F32.exists_fin {x : F32} (h : x.finite = true) : ∃ s n, x = .fin s n := by
  cases x with
  | fin s n => exact ⟨s, n, rfl⟩
  | _ => cases h

theorem F32.nonneg_zero : F32.zero.Nonneg := ⟨rfl, le_rfl⟩

theorem repInt_natCast {n : Nat} (h : RepUnits n) : RepInt n := h

theorem repInt_neg {z : Int} (h : RepInt z) : RepInt (-z) := by
  unfold RepInt
  rwa [Int.natAbs_neg]

theorem repInt_zero : RepInt 0 := repUnits_zero

/-- The multiples of a place up to 1.0, up to 2^24 of it, are representable. -/
theorem repInt_multiple {q k : Nat} (hq : q ≤ 2 ^ 24) (hk : k ≤ 149) : RepInt ((q * 2 ^ k : Nat) : Int) := by
  refine repInt_natCast (repUnits_shift hq ?_)
  calc q * 2 ^ k ≤ 2 ^ 24 * 2 ^ k := Nat.mul_le_mul_right _ hq
    _ = 2 ^ (24 + k) := (pow_add ..).symm
    _ < _ := Nat.pow_lt_pow_right (by decide) (by omega)

/-- Whole numbers up to 2^24 are representable. -/
theorem repInt_whole {k : Nat} (h : k ≤ 2 ^ 24) : RepInt (k * 2 ^ 149) := by
  exact_mod_cast repInt_multiple h le_rfl

theorem repInt_one : RepInt (2 ^ 149) := by
  have := repInt_whole (k := 1) (by decide)
  rwa [Nat.cast_one, one_mul] at this

theorem F32.repInt_rank {x : F32} (hx : x.Rep) (hf : x.finite = true) : RepInt x.rank := by
  obtain ⟨s, n, rfl⟩ := F32.exists_fin hf
  unfold RepInt
  rw [F32.rank_fin, natAbs_signedUnits]
  exact hx

@[simp] theorem signedUnits_zero (s : Bool) : signedUnits s 0 = 0 := by cases s <;> rfl

theorem F32.rank_neg (x : F32) : x.neg.rank = -x.rank := by
  cases x with
  | nan => rfl
  | inf s => exact signedUnits_not s _
  | fin s n => exact signedUnits_not s n

theorem F32.finite_neg (x : F32) : x.neg.finite = x.finite := by cases x <;> rfl

theorem F32.ordered_neg (x : F32) : x.neg.ordered = x.ordered := by cases x <;> rfl

section
variable {x : F32} {lo hi : Int}

theorem F32.inRange_neg : x.neg.InRange lo hi ↔ x.InRange (-hi) (-lo) := by
  unfold F32.InRange
  rw [F32.ordered_neg, F32.rank_neg]
  constructor <;> rintro ⟨ho, h1, h2⟩ <;> exact ⟨ho, by omega, by omega⟩

theorem F32.InRange.mono {lo' hi' : Int} (h : x.InRange lo hi) (hlo : lo' ≤ lo) (hhi : hi ≤ hi') : x.InRange lo' hi' :=
  ⟨h.1, hlo.trans h.2.1, h.2.2.trans hhi⟩

/-- The infinities lie outside all representable bounds. -/
theorem F32.InRange.finite (h : x.InRange lo hi) (hlo : RepInt lo) (hhi : RepInt hi) : x.finite = true := by
  obtain ⟨hlo, -⟩ := hlo
  obtain ⟨hhi, -⟩ := hhi
  obtain ⟨ho, h1, h2⟩ := h
  cases x with
  | nan => cases ho
  | fin s n => rfl
  | inf s =>
    simp only [F32.rank] at h1 h2
    cases s <;> simp only [signedUnits, if_true, Bool.false_eq_true, if_false] at h1 h2 <;> omega

theorem F32.InRange.nonneg (h : x.InRange 0 hi) (hhi : RepInt hi) : x.Nonneg := ⟨h.finite repInt_zero hhi, h.2.1⟩

end

/-! ## Rounding between bounds -/

theorem F32.ofMagnitude_not (s : Bool) (n : Nat) : F32.ofMagnitude (!s) n = (F32.ofMagnitude s n).neg := by
  unfold F32.ofMagnitude
  split <;> rfl

theorem F32.ofMagnitude_of_lt (s : Bool) {n : Nat} (h : n < 2 ^ 277) : F32.ofMagnitude s n = .fin s n := if_pos h

theorem roundRatio_le {num den n : Nat} (hd : 0 < den) (hn : RepUnits n) (h : num ≤ n * den) : roundRatio num den ≤ n := by
  have hmono := roundRatio_mono (n₁ := num) (n₂ := n * den) hd hd (Nat.mul_le_mul_right den h)
  rwa [roundRatio_exact hd hn.2] at hmono

theorem le_roundRatio {num den n : Nat} (hd : 0 < den) (hn : RepUnits n) (h : n * den ≤ num) : n ≤ roundRatio num den := by
  have hmono := roundRatio_mono (n₁ := n * den) (n₂ := num) hd hd (Nat.mul_le_mul_right den h)
  rwa [roundRatio_exact hd hn.2] at hmono

theorem ofMagnitude_false_inRange {num den : Nat} {lo hi : Int} (hd : 0 < den) (hlo : RepInt lo) (hhi : RepInt hi)
    (h1 : lo * den ≤ num) (h2 : num ≤ hi * den) : (F32.ofMagnitude false (roundRatio num den)).InRange lo hi := by
  have hden : (0 : Int) < den := by exact_mod_cast hd
  have hpos : 0 ≤ hi := nonneg_of_mul_nonneg_left ((Int.natCast_nonneg num).trans h2) hden
  lift hi to Nat using hpos
  have hle : roundRatio num den ≤ hi := roundRatio_le hd hhi (by exact_mod_cast h2)
  rw [F32.ofMagnitude_of_lt false (hle.trans_lt hhi.1)]
  refine ⟨rfl, ?_, Int.ofNat_le.mpr hle⟩
  rcases lt_or_ge lo 0 with hneg | hpos
  · exact hneg.le.trans (Int.natCast_nonneg _)
  · lift lo to Nat using hpos
    exact Int.ofNat_le.mpr (le_roundRatio hd hlo (by exact_mod_cast h1))

/-- A rounded ratio lies between all representable bounds of the exact one. -/
theorem ofMagnitude_inRange {s : Bool} {num den : Nat} {lo hi : Int} (hd : 0 < den) (hlo : RepInt lo) (hhi : RepInt hi)
    (h1 : lo * den ≤ signedUnits s num) (h2 : signedUnits s num ≤ hi * den) :
    (F32.ofMagnitude s (roundRatio num den)).InRange lo hi := by
  cases s with
  | false => exact ofMagnitude_false_inRange hd hlo hhi h1 h2
  | true =>
    have hnum : signedUnits true num = -(num : Int) := rfl
    rw [hnum] at h1 h2
    refine (F32.ofMagnitude_not false _).symm ▸ F32.inRange_neg.mpr ?_
    exact ofMagnitude_false_inRange hd (repInt_neg hhi) (repInt_neg hlo) (by linarith) (by linarith)

/-! ## Operations between bounds -/

section
variable {a b : F32} {lo hi : Int}

theorem F32.ofSum_inRange (both : Bool) {z : Int} (hlo : RepInt lo) (hhi : RepInt hi) (h1 : lo ≤ z) (h2 : z ≤ hi) :
    (F32.ofSum both z).InRange lo hi := by
  unfold F32.ofSum
  split
  next hz =>
    refine ⟨rfl, ?_⟩
    rw [F32.rank_fin, signedUnits_zero]
    exact hz ▸ ⟨h1, h2⟩
  next =>
    refine ofMagnitude_inRange Nat.one_pos hlo hhi ?_ ?_ <;> rw [signedUnits_sign] <;> simpa

theorem F32.add_inRange (ha : a.finite = true) (hb : b.finite = true) (hlo : RepInt lo) (hhi : RepInt hi)
    (h1 : lo ≤ a.rank + b.rank) (h2 : a.rank + b.rank ≤ hi) : (a.add b).InRange lo hi := by
  obtain ⟨s, m, rfl⟩ := F32.exists_fin ha
  obtain ⟨t, n, rfl⟩ := F32.exists_fin hb
  exact F32.ofSum_inRange _ hlo hhi h1 h2

/-- `i2f` is exact on whole numbers up to 2^24. -/
theorem F32.ofInt_rank {k : Nat} (hk : k ≤ 2 ^ 24) : (F32.ofInt k).rank = k * 2 ^ 149 := by
  have hrep := repInt_whole hk
  obtain ⟨-, h1, h2⟩ := F32.ofSum_inRange false hrep hrep le_rfl le_rfl
  exact le_antisymm h2 h1

theorem F32.sub_inRange (ha : a.finite = true) (hb : b.finite = true) (hlo : RepInt lo) (hhi : RepInt hi)
    (h1 : lo ≤ a.rank - b.rank) (h2 : a.rank - b.rank ≤ hi) : (a.sub b).InRange lo hi := by
  refine F32.add_inRange ha ((F32.finite_neg b).trans hb) hlo hhi ?_ ?_ <;> rw [F32.rank_neg] <;> omega

theorem F32.mul_inRange (ha : a.finite = true) (hb : b.finite = true) (hlo : RepInt lo) (hhi : RepInt hi)
    (h1 : lo * 2 ^ 149 ≤ a.rank * b.rank) (h2 : a.rank * b.rank ≤ hi * 2 ^ 149) : (a.mul b).InRange lo hi := by
  obtain ⟨s, m, rfl⟩ := F32.exists_fin ha
  obtain ⟨t, n, rfl⟩ := F32.exists_fin hb
  rw [F32.rank_fin, F32.rank_fin, ← signedUnits_xor_mul] at h1 h2
  exact ofMagnitude_inRange (by positivity) hlo hhi (by exact_mod_cast h1) (by exact_mod_cast h2)

/-- A positive finite value is a positive magnitude. -/
theorem F32.exists_pos_fin {x : F32} (hf : x.finite = true) (hpos : 0 < x.rank) : ∃ n, 0 < n ∧ x = .fin false n := by
  obtain ⟨s, n, rfl⟩ := F32.exists_fin hf
  rw [F32.rank_fin] at hpos
  cases s with
  | false => exact ⟨n, Int.natCast_pos.mp hpos, rfl⟩
  | true => simp only [signedUnits, if_true] at hpos; omega

theorem F32.div_inRange (ha : a.finite = true) (hb : b.finite = true) (hpos : 0 < b.rank) (hlo : RepInt lo)
    (hhi : RepInt hi) (h1 : lo * b.rank ≤ a.rank * 2 ^ 149) (h2 : a.rank * 2 ^ 149 ≤ hi * b.rank) :
    (a.div b).InRange lo hi := by
  obtain ⟨s, m, rfl⟩ := F32.exists_fin ha
  obtain ⟨n, hn, rfl⟩ := F32.exists_pos_fin hb hpos
  have hnum : signedUnits s (m * 2 ^ 149) = signedUnits s m * 2 ^ 149 := by rw [signedUnits_mul]; norm_cast
  simp only [F32.div, if_neg hn.ne', Bool.xor_false]
  rw [F32.rank_fin, F32.rank_fin, ← hnum] at h1 h2
  exact ofMagnitude_inRange hn hlo hhi h1 h2

end

/-! ## Values that are not below zero

An operation may overflow to an infinity and then answer a NaN, whose rank is 0, so no finiteness is asked here. -/

theorem F32.ofMagnitude_false_rank (n : Nat) : 0 ≤ (F32.ofMagnitude false n).rank := by
  unfold F32.ofMagnitude
  split <;> exact Int.natCast_nonneg _

theorem roundRatio_zero (den : Nat) : roundRatio 0 den = 0 := by
  simp [roundRatio, roundInt]

/-- A sign that leaves a magnitude not below zero is plus, or the magnitude is zero. -/
theorem sign_of_signedUnits_nonneg {s : Bool} {n : Nat} (h : 0 ≤ signedUnits s n) : s = false ∨ n = 0 := by
  cases s with
  | false => exact .inl rfl
  | true => simp only [signedUnits, if_true] at h; omega

theorem ofMagnitude_rank_nonneg {s : Bool} {num : Nat} (den : Nat) (h : 0 ≤ signedUnits s num) :
    0 ≤ (F32.ofMagnitude s (roundRatio num den)).rank := by
  obtain rfl | rfl := sign_of_signedUnits_nonneg h
  · exact F32.ofMagnitude_false_rank _
  · rw [roundRatio_zero, F32.ofMagnitude_of_lt s (by positivity), F32.rank_fin, signedUnits_zero]

theorem ofSum_rank_nonneg (b : Bool) {z : Int} (h : 0 ≤ z) : 0 ≤ (F32.ofSum b z).rank := by
  unfold F32.ofSum
  split
  · exact (signedUnits_zero b).ge
  · exact ofMagnitude_rank_nonneg 1 (by rwa [signedUnits_sign])

/-- The sign of an infinity times a magnitude that is not zero. -/
theorem inf_rank_nonneg {s : Bool} {n : Nat} (hn : n ≠ 0) (h : 0 ≤ signedUnits s n) : 0 ≤ (F32.inf s).rank := by
  rw [(sign_of_signedUnits_nonneg h).resolve_right hn]
  exact Int.natCast_nonneg _

section
variable {a b : F32}

theorem F32.mul_rank_nonneg (h : 0 ≤ a.rank * b.rank) : 0 ≤ (a.mul b).rank := by
  have hbig : (2 : Nat) ^ 277 ≠ 0 := by positivity
  cases a with
  | nan => exact le_rfl
  | inf s =>
    cases b with
    | nan => exact le_rfl
    | inf t =>
      simp only [F32.rank, ← signedUnits_xor_mul] at h
      exact inf_rank_nonneg (Nat.mul_ne_zero hbig hbig) h
    | fin t n =>
      simp only [F32.rank, ← signedUnits_xor_mul] at h
      simp only [F32.mul]
      split
      next => exact le_rfl
      next hn => exact inf_rank_nonneg (Nat.mul_ne_zero hbig hn) h
  | fin s m =>
    cases b with
    | nan => exact le_rfl
    | inf t =>
      simp only [F32.rank, ← signedUnits_xor_mul] at h
      simp only [F32.mul]
      split
      next => exact le_rfl
      next hm => exact inf_rank_nonneg (Nat.mul_ne_zero hm hbig) h
    | fin t n =>
      simp only [F32.rank, ← signedUnits_xor_mul] at h
      exact ofMagnitude_rank_nonneg _ h

theorem F32.add_rank_nonneg (ha : 0 ≤ a.rank) (hb : 0 ≤ b.rank) : 0 ≤ (a.add b).rank := by
  cases a with
  | nan => exact le_rfl
  | inf s =>
    cases b with
    | nan => exact le_rfl
    | inf t =>
      simp only [F32.add]
      split
      · exact ha
      · exact le_rfl
    | fin t n => exact ha
  | fin s m =>
    cases b with
    | nan => exact le_rfl
    | inf t => exact hb
    | fin t n => exact ofSum_rank_nonneg _ (add_nonneg ha hb)

/-- Only infinities of two signs add up to a NaN. -/
theorem F32.add_ordered (ha : 0 ≤ a.rank) (hb : 0 ≤ b.rank) (hoa : a.ordered = true) (hob : b.ordered = true) :
    (a.add b).ordered = true := by
  have hbig : (2 : Nat) ^ 277 ≠ 0 := by positivity
  cases a with
  | nan => cases hoa
  | inf s =>
    obtain rfl := (sign_of_signedUnits_nonneg ha).resolve_right hbig
    cases b with
    | nan => cases hob
    | inf t =>
      obtain rfl := (sign_of_signedUnits_nonneg hb).resolve_right hbig
      rfl
    | fin t n => rfl
  | fin s m =>
    cases b with
    | nan => cases hob
    | inf t => rfl
    | fin t n =>
      simp only [F32.add, F32.ofSum, F32.ofMagnitude]
      (repeat' split) <;> rfl

theorem F32.div_rank_nonneg (ha : 0 ≤ a.rank) (hb : 0 < b.rank) : 0 ≤ (a.div b).rank := by
  have hbig : (2 : Nat) ^ 277 ≠ 0 := by positivity
  cases b with
  | nan => exact absurd hb (lt_irrefl _)
  | inf t =>
    cases a with
    | nan => exact le_rfl
    | inf s => exact le_rfl
    | fin s m => exact (signedUnits_zero (s ^^ t)).ge
  | fin t n =>
    obtain ⟨n, hn, heq⟩ := F32.exists_pos_fin rfl hb
    cases heq
    cases a with
    | nan => exact le_rfl
    | inf s => rwa [← Bool.xor_false s] at ha
    | fin s m =>
      simp only [F32.div, if_neg hn.ne', Bool.xor_false]
      refine ofMagnitude_rank_nonneg _ ?_
      rw [signedUnits_mul]
      exact mul_nonneg ha (Int.natCast_nonneg _)

theorem F32.sqrt_rank_nonneg (x : F32) : 0 ≤ x.sqrt.rank := by
  cases x with
  | nan => exact le_rfl
  | inf s =>
    simp only [F32.sqrt]
    split
    · exact le_rfl
    · exact inf_rank_nonneg (n := 1) (by decide) (by decide)
  | fin s n =>
    simp only [F32.sqrt]
    split
    · exact (signedUnits_zero s).ge
    · split
      · exact le_rfl
      · exact F32.ofMagnitude_false_rank _

end

/-! ## Comparisons (00_scope.md R17) -/

section
variable {a b : F32}

theorem F32.lt_iff : a.lt b = true ↔ a.ordered = true ∧ b.ordered = true ∧ a.rank < b.rank := by
  simp [F32.lt, and_assoc]

theorem F32.le_iff : a.le b = true ↔ a.ordered = true ∧ b.ordered = true ∧ a.rank ≤ b.rank := by
  simp [F32.le, and_assoc]

theorem F32.fmax_rank_pos (ha : a.ordered = true) (hb : b.ordered = true) (hpos : 0 < b.rank) :
    0 < (a.fmax b).rank := by
  unfold F32.fmax F32.gt
  split
  next => exact hpos
  next hle =>
    rw [F32.lt_iff, not_and, not_and] at hle
    exact hpos.trans_le (not_lt.mp (hle ha hb))

/-- The clamp of 42_goertzel.md R145 and 44_tempo.md R163: a NaN counts as 1. -/
theorem F32.fmin_one_inRange {x : F32} (h : 0 ≤ x.rank) : (F32.one.fmin x).InRange 0 (2 ^ 149) := by
  unfold F32.fmin
  split
  next hlt =>
    obtain ⟨ho, -, hlt⟩ := F32.lt_iff.mp hlt
    exact ⟨ho, h, hlt.le⟩
  next => exact ⟨rfl, by decide, by decide⟩

end

/-! ## The range tests of the model, on the values (40_sequencer.md R128, 30_encoding.md R118) -/

theorem inUnit_iff {w : Word} : inUnit w = true ↔ (val w).InRange 0 (2 ^ 149) := by
  have hone : F32.one.rank = 2 ^ 149 := rfl
  have hzero : F32.zero.rank = 0 := rfl
  rw [inUnit, Bool.and_eq_true, F32.le_iff, F32.le_iff, hone, hzero]
  exact ⟨fun ⟨⟨_, ho, h1⟩, _, _, h2⟩ => ⟨ho, h1, h2⟩, fun ⟨ho, h1, h2⟩ => ⟨⟨rfl, ho, h1⟩, ho, rfl, h2⟩⟩

theorem isNonneg_iff {w : Word} : isNonneg w = true ↔ (val w).Nonneg := by
  have hzero : F32.zero.rank = 0 := rfl
  rw [isNonneg, Bool.and_eq_true, F32.ge, F32.le_iff, hzero]
  exact ⟨fun ⟨hf, _, _, h⟩ => ⟨hf, h⟩, fun ⟨hf, h⟩ => ⟨hf, rfl, F32.ordered_of_finite hf, h⟩⟩

theorem rank_pos_of_isPositive {w : Word} (h : isPositive w = true) : (val w).ordered = true ∧ 0 < (val w).rank := by
  rw [isPositive, Bool.and_eq_true, F32.gt, F32.lt_iff] at h
  exact ⟨h.2.2.1, h.2.2.2⟩

section
variable {x : F32}

theorem val_toBits_self (hx : x.Rep) : val x.toBits = x := val_toBits hx rfl

theorem inUnit_toBits (hx : x.Rep) (h : x.InRange 0 (2 ^ 149)) : inUnit x.toBits = true :=
  inUnit_iff.mpr ((val_toBits_self hx).symm ▸ h)

theorem isNonneg_toBits (hx : x.Rep) (h : x.Nonneg) : isNonneg x.toBits = true :=
  isNonneg_iff.mpr ((val_toBits_self hx).symm ▸ h)

theorem isFinite_toBits (hx : x.Rep) (h : x.finite = true) : isFinite x.toBits = true := by
  rwa [isFinite, val_toBits_self hx]

theorem legalPhase_toBits (hx : x.Rep) (h : phaseLegal x = true) : legalPhase x.toBits = true := by
  rwa [legalPhase, val_toBits_self hx]

end

theorem inUnit_zero : inUnit 0#32 = true := inUnit_iff.mpr ⟨rfl, le_rfl, by decide⟩
theorem isNonneg_zero : isNonneg 0#32 = true := isNonneg_iff.mpr F32.nonneg_zero
theorem legalPhase_zero : legalPhase 0#32 = true := rfl
theorem inHalfOpenUnit_zero : inHalfOpenUnit 0#32 = true := rfl

/-! ## Sums that grow by at most 1.0 a term -/

/-- `2 ^ 24` terms or fewer, each raising the sum by at most 1.0. -/
theorem foldl_inRange {α : Type} {f : F32 → α → F32}
    (hstep : ∀ acc x (k : Nat), k < 2 ^ 24 → acc.InRange 0 (k * 2 ^ 149) → (f acc x).InRange 0 ((k + 1 : Nat) * 2 ^ 149))
    (l : List α) {acc : F32} {k : Nat} (hk : k + l.length ≤ 2 ^ 24) (hacc : acc.InRange 0 (k * 2 ^ 149)) :
    (l.foldl f acc).InRange 0 ((k + l.length : Nat) * 2 ^ 149) := by
  induction l generalizing acc k with
  | nil => exact hacc
  | cons x l ih =>
    rw [List.length_cons] at hk
    have hrest := ih (k := k + 1) (by omega) (hstep acc x k (by omega) hacc)
    rwa [Nat.add_right_comm] at hrest

theorem F32.add_whole {a b : F32} {k : Nat} (hk : k < 2 ^ 24) (ha : a.InRange 0 (k * 2 ^ 149)) (hb : b.InRange 0 (2 ^ 149)) :
    (a.add b).InRange 0 ((k + 1 : Nat) * 2 ^ 149) := by
  have hafin := ha.finite repInt_zero (repInt_whole hk.le)
  have hbfin := hb.finite repInt_zero repInt_one
  obtain ⟨-, ha0, ha1⟩ := ha
  obtain ⟨-, hb0, hb1⟩ := hb
  refine F32.add_inRange hafin hbfin repInt_zero (repInt_whole hk) (by omega) ?_
  push_cast
  linarith

/-! ## Smoothing (42_goertzel.md R147) -/

/-- A sum less than half a place above 1.0 rounds to 1.0 at most. -/
theorem F32.add_near_one {a b : F32} (ha : a.finite = true) (hb : b.finite = true) (h1 : 0 ≤ a.rank + b.rank)
    (h2 : a.rank + b.rank ≤ 2 ^ 149 + 2 ^ 125) : (a.add b).InRange 0 (2 ^ 149) := by
  obtain ⟨s, m, rfl⟩ := F32.exists_fin ha
  obtain ⟨t, n, rfl⟩ := F32.exists_fin hb
  rw [F32.rank_fin, F32.rank_fin] at h1 h2
  simp only [F32.add, F32.ofSum]
  generalize signedUnits s m + signedUnits t n = z at h1 h2 ⊢
  split
  next =>
    refine ⟨rfl, ?_⟩
    rw [F32.rank_fin, signedUnits_zero]
    exact ⟨le_rfl, by decide⟩
  next =>
    have htop : roundRatio (2 ^ 149 + 2 ^ 125) 1 = 2 ^ 149 := rfl
    have hle : roundRatio z.natAbs 1 ≤ 2 ^ 149 := htop ▸ roundRatio_mono Nat.one_pos Nat.one_pos (by omega)
    rw [decide_eq_false (by omega), F32.ofMagnitude_of_lt false (hle.trans_lt repInt_one.1)]
    refine ⟨rfl, Int.natCast_nonneg _, ?_⟩
    rw [F32.rank_fin]
    exact Int.ofNat_le.mpr hle

/-- Between 0 and 1.0 the multiples of 2^-24 are representable. -/
theorem exists_repInt_above {z : Int} (h0 : 0 ≤ z) (h1 : z ≤ 2 ^ 149) :
    ∃ top, RepInt top ∧ z ≤ top ∧ top ≤ z + 2 ^ 125 := by
  lift z to Nat using h0
  have hq : (z + (2 ^ 125 - 1)) / 2 ^ 125 ≤ 2 ^ 24 := by omega
  exact ⟨_, repInt_multiple hq (k := 125) (by decide), by omega, by omega⟩

/-- A step from `y` towards `m` stays in [0, 1]: the difference `m - y` is rounded to at most the multiple of 2^-24 above
`1 - y`, so that the last sum lies at most half a place above 1.0. -/
theorem smoothStep_inRange {attack release m y : F32} (hattack : attack.InRange 0 (2 ^ 149))
    (hrelease : release.InRange 0 (2 ^ 149)) (hm : m.InRange 0 (2 ^ 149)) (hy : y.InRange 0 (2 ^ 149)) (hrep : y.Rep) :
    (smoothStep attack release m y).InRange 0 (2 ^ 149) := by
  have hcoeff : (if m.gt y then attack else release).InRange 0 (2 ^ 149) := by split <;> assumption
  unfold smoothStep
  dsimp only
  generalize (if m.gt y then attack else release) = a at hcoeff ⊢
  have hfin {x : F32} (hx : x.InRange 0 (2 ^ 149)) : x.finite = true := hx.finite repInt_zero repInt_one
  have hyfin := hfin hy
  have hmfin := hfin hm
  have hafin := hfin hcoeff
  obtain ⟨-, hm0, hm1⟩ := hm
  obtain ⟨-, hy0, hy1⟩ := hy
  obtain ⟨-, ha0, ha1⟩ := hcoeff
  obtain ⟨top, htop, habove, hnear⟩ := exists_repInt_above (z := 2 ^ 149 - y.rank) (by omega) (by omega)
  have hbottom : RepInt (-y.rank) := repInt_neg (F32.repInt_rank hrep hyfin)
  have hdiff : (m.sub y).InRange (-y.rank) top := F32.sub_inRange hmfin hyfin hbottom htop (by omega) (by omega)
  have hdiffFin := hdiff.finite hbottom htop
  obtain ⟨-, hd0, hd1⟩ := hdiff
  have hmove : (a.mul (m.sub y)).InRange (-y.rank) top :=
    F32.mul_inRange hafin hdiffFin hbottom htop (by nlinarith) (by nlinarith)
  have hmoveFin := hmove.finite hbottom htop
  obtain ⟨-, he0, he1⟩ := hmove
  exact F32.add_near_one hyfin hmoveFin (by omega) (by omega)

/-! ## Products with a factor in [0, 1] -/

theorem F32.mul_unit_finite {x a : F32} (hx : x.Rep) (hf : x.finite = true) (ha : a.InRange 0 (2 ^ 149)) :
    (x.mul a).finite = true := by
  have hrep : RepInt |x.rank| := by
    unfold RepInt
    rw [Int.natAbs_abs]
    exact F32.repInt_rank hx hf
  have hafin := ha.finite repInt_zero repInt_one
  obtain ⟨-, ha0, ha1⟩ := ha
  have hlo := neg_abs_le x.rank
  have hhi := le_abs_self x.rank
  exact (F32.mul_inRange hf hafin (repInt_neg hrep) hrep (by nlinarith [abs_nonneg x.rank])
    (by nlinarith [abs_nonneg x.rank])).finite (repInt_neg hrep) hrep

theorem F32.mul_unit_nonneg {x a : F32} (hx : x.Rep) (h : x.Nonneg) (ha : a.InRange 0 (2 ^ 149)) : (x.mul a).Nonneg :=
  ⟨F32.mul_unit_finite hx h.1 ha, F32.mul_rank_nonneg (mul_nonneg h.2 ha.2.1)⟩

/-! ## The beat phase (44_tempo.md R167) -/

theorem F32.pi_rank : F32.pi.rank = 13176795 * 2 ^ 127 := rfl
theorem F32.negPi_rank : F32.negPi.rank = -(13176795 * 2 ^ 127) := rfl
theorem F32.twoPi_rank : F32.twoPi.rank = 13176795 * 2 ^ 128 := rfl

theorem phaseLegal_iff {p : F32} :
    phaseLegal p = true ↔ p.finite = true ∧ F32.negPi.rank < p.rank ∧ p.rank ≤ F32.pi.rank := by
  unfold phaseLegal F32.gt
  rw [Bool.and_eq_true, Bool.and_eq_true, F32.lt_iff, F32.le_iff]
  constructor
  · rintro ⟨⟨hf, -, -, h1⟩, -, -, h2⟩
    exact ⟨hf, h1, h2⟩
  · rintro ⟨hf, h1, h2⟩
    exact ⟨⟨hf, rfl, F32.ordered_of_finite hf, h1⟩, F32.ordered_of_finite hf, rfl, h2⟩

/-- `(phase + PI_F) / TWO_PI_F` is in [0, 1], and 1.0 is replaced by +0. -/
theorem phase01Of_range {p : F32} (h : phaseLegal p = true) :
    (phase01Of p).ordered = true ∧ 0 ≤ (phase01Of p).rank ∧ (phase01Of p).rank < 2 ^ 149 := by
  obtain ⟨hf, hlo, hhi⟩ := phaseLegal_iff.mp h
  rw [F32.negPi_rank] at hlo
  rw [F32.pi_rank] at hhi
  have htwoPi : RepInt F32.twoPi.rank := F32.repInt_rank (F32.rep_ofBits _) rfl
  have hsum : (p.add F32.pi).InRange 0 F32.twoPi.rank := by
    refine F32.add_inRange hf rfl repInt_zero htwoPi ?_ ?_
    · rw [F32.pi_rank]; omega
    · rw [F32.pi_rank, F32.twoPi_rank]; omega
  have hsumFin := hsum.finite repInt_zero htwoPi
  obtain ⟨-, h0, h1⟩ := hsum
  have hpos : 0 < F32.twoPi.rank := by decide
  have hquot : ((p.add F32.pi).div F32.twoPi).InRange 0 (2 ^ 149) :=
    F32.div_inRange hsumFin rfl hpos repInt_zero repInt_one (by omega) (by linarith)
  unfold phase01Of
  dsimp only
  generalize (p.add F32.pi).div F32.twoPi = q at hquot ⊢
  obtain ⟨ho, hq0, hq1⟩ := hquot
  split
  next => exact ⟨rfl, le_rfl, by decide⟩
  next hlt =>
    have hone : F32.one.rank = 2 ^ 149 := rfl
    rw [F32.ge, F32.le_iff, hone] at hlt
    exact ⟨ho, hq0, not_le.mp fun hle => hlt ⟨rfl, ho, hle⟩⟩

theorem inHalfOpenUnit_toBits {x : F32} (hx : x.Rep) (h : x.ordered = true ∧ 0 ≤ x.rank ∧ x.rank < 2 ^ 149) :
    inHalfOpenUnit x.toBits = true := by
  have hone : F32.one.rank = 2 ^ 149 := rfl
  have hzero : F32.zero.rank = 0 := rfl
  obtain ⟨ho, h0, h1⟩ := h
  rw [inHalfOpenUnit, val_toBits_self hx, Bool.and_eq_true, F32.le_iff, F32.lt_iff, hone, hzero]
  exact ⟨⟨rfl, ho, h0⟩, ho, rfl, h1⟩

/-! ## The phase of a resonator (44_tempo.md R158) -/

theorem oscPhaseOf_legal {im re : F32} (him : im.finite = true) (hre : re.finite = true) :
    (oscPhaseOf im re).Rep ∧ phaseLegal (oscPhaseOf im re) = true := by
  obtain ⟨sy, m, rfl⟩ := F32.exists_fin him
  obtain ⟨sx, n, rfl⟩ := F32.exists_fin hre
  obtain ⟨neg, x, hx, heq⟩ := F32.atan2_fin sy sx m n
  obtain ⟨hf, -, hle⟩ := F32.within_pi neg hx
  unfold oscPhaseOf
  rw [heq]
  dsimp only
  split
  next => exact ⟨F32.rep_pi, rfl⟩
  next hgt =>
    refine ⟨F32.rep_ofBits _, phaseLegal_iff.mpr ⟨hf, ?_, (F32.le_iff.mp hle).2.2⟩⟩
    rw [F32.le_iff] at hgt
    exact not_le.mp fun hle => hgt ⟨F32.ordered_of_finite hf, rfl, hle⟩

end Sys2Proof.Machine
end

section
/-! The numbers of the block (30_encoding.md R118, 45_commit.md R173): each stage of a hop keeps them in their ranges under a
configuration that passed the enable check, which every command that computes has behind it. -/

namespace Sys2Proof.Machine

/-! ## The dynamic state -/

/-- The numbers of the dynamic state are where the spec says they are: what `State.NumbersBounded` says of it. -/
def Dyn.Bounded (d : Dyn) : Prop := d.BinsBounded ∧ d.OnsetFinite ∧ d.TempoBounded

theorem State.numbersBounded_iff (s : State) : s.NumbersBounded ↔ s.dyn.Bounded ∧ s.res.Clean := by
  unfold State.NumbersBounded Dyn.Bounded
  exact ⟨fun ⟨hbins, honset, htempo, hres⟩ => ⟨⟨hbins, honset, htempo⟩, hres⟩,
    fun ⟨⟨hbins, honset, htempo⟩, hres⟩ => ⟨hbins, honset, htempo, hres⟩⟩

/-- `e` holds the numbers of `d`: it may differ in the sample buffers and in the pending hops. -/
def Dyn.SameNumbers (d e : Dyn) : Prop :=
  e = { d with stage := e.stage, stageCount := e.stageCount, hist := e.hist, histWptr := e.histWptr,
               histFill := e.histFill, elapsedPend := e.elapsedPend }

theorem Dyn.SameNumbers.bounded {d e : Dyn} (h : d.SameNumbers e) (hd : d.Bounded) : e.Bounded := by
  rw [h]
  exact hd

theorem Dyn.SameNumbers.of_eq {d e : Dyn} (h : e = d) : d.SameNumbers e := by rw [h]; rfl

/-! ## What the statement says of each number -/

section
variable {d : Dyn}

theorem Dyn.Bounded.zoneLevel (h : d.Bounded) : ∀ z : Fin 4, isNonneg d.zoneLevel[z] = true := by
  obtain ⟨⟨-, hzones⟩, -⟩ := h
  exact hzones

theorem Dyn.Bounded.bins (h : d.Bounded) (k : Fin 64) :
    inUnit d.wMag[k] = true ∧ inUnit d.wFast[k] = true ∧ inUnit d.wSlow[k] = true ∧ inUnit d.prevMag[k] = true := by
  obtain ⟨⟨hbins, -⟩, -⟩ := h
  exact (hbins k).2

theorem Dyn.Bounded.mag (h : d.Bounded) (k : Fin 64) : inUnit d.wMag[k] = true := (h.bins k).1

theorem Dyn.Bounded.prev (h : d.Bounded) (k : Fin 64) : inUnit d.prevMag[k] = true := by
  obtain ⟨-, -, -, hprev⟩ := h.bins k
  exact hprev

theorem Dyn.Bounded.novHist (h : d.Bounded) : ∀ j : Fin 128, isFinite d.novHist[j] = true := by
  obtain ⟨-, ⟨-, -, -, -, hhist⟩, -⟩ := h
  exact hhist

theorem Dyn.Bounded.oscillators (h : d.Bounded) (m : Fin 121) :
    isFinite d.oscRe[m] = true ∧ isFinite d.oscIm[m] = true ∧ isNonneg d.oscRaw[m] = true ∧
      isNonneg d.oscSmooth[m] = true ∧ legalPhase d.oscPhase[m] = true ∧ inUnit d.oscContrib[m] = true := by
  obtain ⟨-, -, hosc, -⟩ := h
  exact hosc m

theorem Dyn.Bounded.oscSmooth (h : d.Bounded) (m : Fin 121) : isNonneg d.oscSmooth[m] = true := by
  obtain ⟨-, -, -, hsmooth, -⟩ := h.oscillators m
  exact hsmooth

theorem Dyn.Bounded.phase (h : d.Bounded) : legalPhase d.wPhase = true := by
  obtain ⟨-, -, -, -, -, hphase, -⟩ := h
  exact hphase

/-! ## Writing the numbers: one rule for the fields each stage writes -/

section
variable {raw mag fast slow : Vector Word 64} {zones : Vector Word 4}

theorem Dyn.Bounded.setRaw (h : d.Bounded) (mask0 mask1 : Word) (hraw : ∀ k : Fin 64, isNonneg raw[k] = true) :
    Dyn.Bounded { d with wRaw := raw, wNfMask0 := mask0, wNfMask1 := mask1 } := by
  obtain ⟨⟨hbins, hzones⟩, honset, htempo⟩ := h
  exact ⟨⟨fun k => ⟨hraw k, (hbins k).2⟩, hzones⟩, honset, htempo⟩

theorem Dyn.Bounded.setMag (h : d.Bounded) (hzones : ∀ z : Fin 4, isNonneg zones[z] = true)
    (hmag : ∀ k : Fin 64, inUnit mag[k] = true) : Dyn.Bounded { d with zoneLevel := zones, wMag := mag } := by
  obtain ⟨⟨hbins, -⟩, honset, htempo⟩ := h
  refine ⟨⟨fun k => ?_, hzones⟩, honset, htempo⟩
  obtain ⟨hraw, -, hrest⟩ := hbins k
  exact ⟨hraw, hmag k, hrest⟩

theorem Dyn.Bounded.setSmooth (h : d.Bounded) (hfast : ∀ k : Fin 64, inUnit fast[k] = true)
    (hslow : ∀ k : Fin 64, inUnit slow[k] = true) : Dyn.Bounded { d with wFast := fast, wSlow := slow } := by
  obtain ⟨⟨hbins, hzones⟩, honset, htempo⟩ := h
  refine ⟨⟨fun k => ?_, hzones⟩, honset, htempo⟩
  obtain ⟨hraw, hmag, -, -, hprev⟩ := hbins k
  exact ⟨hraw, hmag, hfast k, hslow k, hprev⟩

theorem Dyn.Bounded.setOnset {prev : Vector Word 64} {hist : Vector Word 128} {flux baseline novelty xin : Word}
    (wptr : Fin 128) (onset : Bool) (h : d.Bounded) (hprev : ∀ k : Fin 64, inUnit prev[k] = true)
    (hhist : ∀ j : Fin 128, isFinite hist[j] = true) (hflux : isNonneg flux = true)
    (hbaseline : isFinite baseline = true) (hnovelty : isFinite novelty = true) (hxin : isFinite xin = true) :
    Dyn.Bounded { d with
      prevMag := prev, novHist := hist, novWptr := wptr, wFlux := flux, wBaseline := baseline
      wNovelty := novelty, wXin := xin, wOnset := onset } := by
  obtain ⟨⟨hbins, hzones⟩, -, htempo⟩ := h
  refine ⟨⟨fun k => ?_, hzones⟩, ⟨hflux, hbaseline, hnovelty, hxin, hhist⟩, htempo⟩
  obtain ⟨hraw, hmag, hfast, hslow, -⟩ := hbins k
  exact ⟨hraw, hmag, hfast, hslow, hprev k⟩

theorem Dyn.Bounded.setOscillators {re im raw phase smooth : Vector Word 121} (active : Vector Bool 121) (h : d.Bounded)
    (hre : ∀ m : Fin 121, isFinite re[m] = true) (him : ∀ m : Fin 121, isFinite im[m] = true)
    (hraw : ∀ m : Fin 121, isNonneg raw[m] = true) (hphase : ∀ m : Fin 121, legalPhase phase[m] = true)
    (hsmooth : ∀ m : Fin 121, isNonneg smooth[m] = true) :
    Dyn.Bounded { d with
      elapsedPend := 0, wBpmRej := false, oscRe := re, oscIm := im, oscRaw := raw, oscPhase := phase
      oscActive := active, oscSmooth := smooth } := by
  obtain ⟨hbins, honset, hosc, htempo⟩ := h
  refine ⟨hbins, honset, fun m => ?_, htempo⟩
  obtain ⟨-, -, -, -, -, hcontrib⟩ := hosc m
  exact ⟨hre m, him m, hraw m, hsmooth m, hphase m, hcontrib⟩

theorem Dyn.Bounded.setPower {power : Word} (winner : Fin 121) (h : d.Bounded) (hpower : notNaN power = true) :
    Dyn.Bounded { d with wPowerSum := power, wWinner := winner } := by
  obtain ⟨hbins, honset, hosc, hconf, hbpm, hphase, hbeat, -⟩ := h
  exact ⟨hbins, honset, hosc, hconf, hbpm, hphase, hbeat, hpower⟩

theorem Dyn.Bounded.setConf {conf : Word} (h : d.Bounded) (hconf : inUnit conf = true) :
    Dyn.Bounded { d with wConf := conf } := by
  obtain ⟨hbins, honset, hosc, -, htempo⟩ := h
  exact ⟨hbins, honset, hosc, hconf, htempo⟩

theorem Dyn.Bounded.setContrib {contrib : Vector Word 121} (h : d.Bounded)
    (hcontrib : ∀ m : Fin 121, inUnit contrib[m] = true) : Dyn.Bounded { d with oscContrib := contrib } := by
  obtain ⟨hbins, honset, hosc, htempo⟩ := h
  refine ⟨hbins, honset, fun m => ?_, htempo⟩
  obtain ⟨hre, him, hraw, hsmooth, hphase, -⟩ := hosc m
  exact ⟨hre, him, hraw, hsmooth, hphase, hcontrib m⟩

theorem Dyn.Bounded.setBpm {bpm : Word} (osc : Fin 121) (h : d.Bounded) (hbpm : isFinite bpm = true) :
    Dyn.Bounded { d with wBpm := bpm, tempoOsc := osc, tempoValid := true } := by
  obtain ⟨hbins, honset, hosc, hconf, -, htempo⟩ := h
  exact ⟨hbins, honset, hosc, hconf, hbpm, htempo⟩

theorem Dyn.Bounded.setPhase {phase : Word} (polarity : Bool) (h : d.Bounded) (hphase : legalPhase phase = true) :
    Dyn.Bounded { d with wPhase := phase, wPolarity := polarity } := by
  obtain ⟨hbins, honset, hosc, hconf, hbpm, -, htempo⟩ := h
  exact ⟨hbins, honset, hosc, hconf, hbpm, hphase, htempo⟩

theorem Dyn.Bounded.setBeat {beat : Word} (locked : Bool) (h : d.Bounded) (hbeat : inHalfOpenUnit beat = true) :
    Dyn.Bounded { d with wPhase01 := beat, wLocked := locked } := by
  obtain ⟨hbins, honset, hosc, hconf, hbpm, hphase, -, hpower⟩ := h
  exact ⟨hbins, honset, hosc, hconf, hbpm, hphase, hbeat, hpower⟩

end

end

/-- The library's `Vector.getElem_ofFn`, at an index that is a `Fin`. -/
theorem getElem_ofFn {α : Type} {n : Nat} (f : Fin n → α) (k : Fin n) : (Vector.ofFn f)[k] = f k := by simp

theorem Dyn.SameNumbers.trans {d e f : Dyn} (h : d.SameNumbers e) (h' : e.SameNumbers f) : d.SameNumbers f := by
  unfold Dyn.SameNumbers at h'
  rw [h] at h'
  exact h'

theorem Dyn.bounded_reset : Dyn.reset.Bounded := by
  refine ⟨⟨fun k => ?_, fun z => ?_⟩, ⟨isNonneg_zero, rfl, rfl, rfl, fun j => ?_⟩, fun m => ?_, inUnit_zero, rfl,
    legalPhase_zero, inHalfOpenUnit_zero, rfl⟩
  · simp [Dyn.reset, isNonneg_zero, inUnit_zero]
  · simp [Dyn.reset, isNonneg_zero]
  · have hzero : isFinite 0#32 = true := rfl
    simp [Dyn.reset, hzero]
  · have hzero : isFinite 0#32 = true := rfl
    simp [Dyn.reset, hzero, isNonneg_zero, inUnit_zero, legalPhase_zero]

theorem Results.clean_reset : Results.reset.Clean := by
  refine ⟨fun k => ?_, rfl, rfl, inHalfOpenUnit_zero, inUnit_zero, legalPhase_zero, rfl, rfl⟩
  simp [Results.reset, inUnit_zero]

theorem State.pushChunk_sameNumbers (s : State) : s.dyn.SameNumbers s.pushChunk.dyn := by
  unfold State.pushChunk Dyn.SameNumbers
  rw [(State.pushSamples_frame _ s).2.2]
  rfl

theorem State.stageOne_sameNumbers (s : State) (h : BitVec 16) : s.dyn.SameNumbers (s.stageOne h).dyn := by
  unfold State.stageOne
  split
  · rfl
  · exact .of_eq rfl

/-- Every configuration word passes its check (40_sequencer.md R128). -/
def Cfg.Checked (c : Cfg) : Prop := ∀ w, c.check w = true

section
variable {s : State}

/-! ## The filter bank (42_goertzel.md R143 to R147) -/

/-- What one bin computes is finite and not negative. -/
structure BinLane.Sound (l : BinLane) : Prop where
  rawRep : l.raw.Rep
  raw : l.raw.Nonneg
  gRep : l.g.Rep
  g : l.g.Nonneg

/-- A root, doubled, over a window length of at least one sample. -/
theorem binRaw_rank_nonneg {c : Cfg} (hc : c.Checked) (d : Dyn) (k : Fin 64) : 0 ≤ (binRaw c d k).rank := by
  have hn : inCount 2048 c.binN[k] = true := hc (.bin .n k)
  simp only [inCount, Bool.and_eq_true, decide_eq_true_eq] at hn
  have hlen : 0 < (F32.ofInt c.binN[k].toNat).rank := by
    rw [F32.ofInt_rank (by omega)]
    omega
  exact F32.div_rank_nonneg (F32.mul_rank_nonneg (mul_nonneg (F32.sqrt_rank_nonneg _) (by decide))) hlen

theorem binLane_sound {c : Cfg} (hc : c.Checked) (d : Dyn) (k : Fin 64) : (binLane c d k).Sound := by
  have hgain := isNonneg_iff.mp (hc (.bin .gain k))
  have hraw := binRaw_rank_nonneg hc d k
  have hg : 0 ≤ ((binRaw c d k).mul (val c.binGain[k])).rank := F32.mul_rank_nonneg (mul_nonneg hraw hgain.2)
  unfold binLane
  dsimp only
  split
  next hfin =>
    rw [Bool.and_eq_true] at hfin
    exact ⟨F32.rep_div _ _, ⟨hfin.1, hraw⟩, F32.rep_mul _ _, hfin.2, hg⟩
  next => exact ⟨F32.rep_zero, F32.nonneg_zero, F32.rep_zero, F32.nonneg_zero⟩

section
variable {lanes : Vector BinLane 64} (hlanes : ∀ k : Fin 64, lanes[k].Sound)
include hlanes

theorem zonePeak_nonneg (z : Fin 4) : (zonePeak lanes z).Rep ∧ (zonePeak lanes z).Nonneg := by
  refine List.foldlRecOn (motive := fun pk : F32 => pk.Rep ∧ pk.Nonneg) _ _ ⟨F32.rep_zero, F32.nonneg_zero⟩ ?_
  intro pk hpk j _
  unfold F32.fmax
  split
  · exact ⟨(hlanes _).gRep, (hlanes _).g⟩
  · exact hpk

theorem zoneLevelNext_nonneg {c : Cfg} {d : Dyn} {z : Fin 4} (hc : c.Checked)
    (hlevel : isNonneg d.zoneLevel[z] = true) :
    (zoneLevelNext c d lanes z).Rep ∧ (zoneLevelNext c d lanes z).Nonneg := by
  unfold zoneLevelNext
  dsimp only
  split
  · exact zonePeak_nonneg hlanes z
  · exact ⟨F32.rep_mul _ _, F32.mul_unit_nonneg (F32.rep_ofBits _) (isNonneg_iff.mp hlevel)
      (inUnit_iff.mp (hc (.scalar .agcDecay)))⟩

/-- The divisor is at least AGC_FLOOR, which is above zero. -/
theorem magnitudeAgc_inRange {c : Cfg} {d : Dyn} (hc : c.Checked)
    (hlevel : ∀ z : Fin 4, isNonneg d.zoneLevel[z] = true) (k : Fin 64) :
    (magnitudeAgc c d lanes k).InRange 0 (2 ^ 149) := by
  obtain ⟨-, hnext⟩ := zoneLevelNext_nonneg hlanes hc (hlevel (zoneOf k))
  obtain ⟨hfloor, hpos⟩ := rank_pos_of_isPositive (hc (.scalar .agcFloor))
  exact F32.fmin_one_inRange
    (F32.div_rank_nonneg (hlanes k).g.2 (F32.fmax_rank_pos (F32.ordered_of_finite hnext.1) hfloor hpos))

theorem magnitudeClamp_inRange (k : Fin 64) : (magnitudeClamp lanes k).InRange 0 (2 ^ 149) :=
  F32.fmin_one_inRange (hlanes k).g.2

/-- Every bin's mask and raw magnitude are the lane's. -/
theorem State.storeLanes_bounded (h : s.dyn.Bounded) : (s.storeLanes lanes).dyn.Bounded := by
  rw [State.storeLanes, State.numfaults_dyn]
  refine h.setRaw _ _ fun k => ?_
  rw [getElem_ofFn]
  exact isNonneg_toBits (hlanes k).rawRep (hlanes k).raw

theorem State.normalise_bounded (hc : s.cfg.Checked) (h : s.dyn.Bounded) :
    (s.normalise lanes).dyn.Bounded := by
  have hzones := h.zoneLevel
  unfold State.normalise
  split
  next =>
    refine h.setMag (fun z => ?_) fun k => ?_ <;> rw [getElem_ofFn]
    · obtain ⟨hrep, hnext⟩ := zoneLevelNext_nonneg hlanes hc (hzones z)
      exact isNonneg_toBits hrep hnext
    · exact inUnit_toBits (F32.rep_fmin F32.rep_one (F32.rep_div _ _)) (magnitudeAgc_inRange hlanes hc hzones k)
  next =>
    refine h.setMag hzones fun k => ?_
    rw [getElem_ofFn]
    exact inUnit_toBits (F32.rep_fmin F32.rep_one (hlanes k).gRep) (magnitudeClamp_inRange hlanes k)

end

/-- One smoothed energy, from a word to a word. -/
theorem smoothStep_inUnit {attack release m y : Word} (hattack : inUnit attack = true) (hrelease : inUnit release = true)
    (hm : inUnit m = true) (hy : inUnit y = true) :
    inUnit (smoothStep (val attack) (val release) (val m) (val y)).toBits = true :=
  inUnit_toBits (F32.rep_add _ _) (smoothStep_inRange (inUnit_iff.mp hattack) (inUnit_iff.mp hrelease)
    (inUnit_iff.mp hm) (inUnit_iff.mp hy) (F32.rep_ofBits _))

theorem State.smooth_bounded (hc : s.cfg.Checked) (h : s.dyn.Bounded) : s.smooth.dyn.Bounded := by
  unfold State.smooth
  refine h.setSmooth (fun k => ?_) fun k => ?_ <;> rw [getElem_ofFn] <;> obtain ⟨hmag, hfast, hslow, -⟩ := h.bins k
  · exact smoothStep_inUnit (hc (.scalar .fastAttack)) (hc (.scalar .fastRelease)) hmag hfast
  · exact smoothStep_inUnit (hc (.scalar .slowAttack)) (hc (.scalar .slowRelease)) hmag hslow

theorem State.goertzel_bounded (hc : s.cfg.Checked) (h : s.dyn.Bounded) : s.goertzel.dyn.Bounded := by
  have hlanes : ∀ k : Fin 64, s.binLanes[k].Sound := fun k => by
    simpa [State.binLanes] using binLane_sound hc s.dyn k
  have hstored : (s.storeLanes s.binLanes).cfg.Checked := by rwa [State.storeLanes_cfg]
  refine State.smooth_bounded ?_ (State.normalise_bounded hlanes hstored (State.storeLanes_bounded hlanes h))
  rwa [State.normalise_cfg]

/-! ## The onset detector (43_onset.md R151 to R156) -/

theorem orZero_finite (x : F32) : (orZero x).finite = true := by
  unfold orZero
  split
  · assumption
  · rfl

theorem rep_orZero {x : F32} (hx : x.Rep) : (orZero x).Rep := F32.rep_ite hx F32.rep_zero

theorem rectify_inRange {x : F32} {lo hi : Int} (hhi : 0 ≤ hi) (hx : x.InRange lo hi) : (rectify x).InRange 0 hi := by
  unfold rectify F32.gt
  split
  next hpos => exact ⟨hx.1, (F32.lt_iff.mp hpos).2.2.le, hx.2.2⟩
  next => exact ⟨rfl, le_rfl, hhi⟩

theorem rectify_nonneg {x : F32} (hx : x.Rep) (hf : x.finite = true) : (rectify x).Rep ∧ (rectify x).Nonneg := by
  refine ⟨F32.rep_ite hx F32.rep_zero, ?_⟩
  unfold rectify F32.gt
  split
  next hpos => exact ⟨hf, (F32.lt_iff.mp hpos).2.2.le⟩
  next => exact F32.nonneg_zero

/-- A sum of 64 terms of at most 1.0, over 64. -/
theorem div_sixtyFour_nonneg {x : F32} (hx : x.InRange 0 (64 * 2 ^ 149)) :
    (x.div F32.sixtyFour).Rep ∧ (x.div F32.sixtyFour).Nonneg := by
  have hrank : F32.sixtyFour.rank = 64 * 2 ^ 149 := rfl
  have hfin := hx.finite repInt_zero (repInt_whole (k := 64) (by decide))
  obtain ⟨-, h0, h1⟩ := hx
  have hquot : (x.div F32.sixtyFour).InRange 0 (2 ^ 149) := by
    refine F32.div_inRange hfin rfl ?_ repInt_zero repInt_one ?_ ?_ <;> rw [hrank] <;> omega
  exact ⟨F32.rep_div _ _, hquot.nonneg repInt_one⟩

theorem foldl_sixtyFour_inRange {f : F32 → Fin 64 → F32}
    (hstep : ∀ acc x (k : Nat), k < 2 ^ 24 → acc.InRange 0 (k * 2 ^ 149) → (f acc x).InRange 0 ((k + 1 : Nat) * 2 ^ 149)) :
    ((List.finRange 64).foldl f F32.zero).InRange 0 (64 * 2 ^ 149) := by
  have hsum := foldl_inRange hstep (List.finRange 64) (acc := F32.zero) (k := 0) (by simp) ⟨rfl, le_rfl, le_rfl⟩
  rwa [List.length_finRange] at hsum

theorem energy_inRange {a : Vector Word 64} (ha : ∀ k : Fin 64, inUnit a[k] = true) :
    (energy a).InRange 0 (64 * 2 ^ 149) :=
  foldl_sixtyFour_inRange fun _ k _ hk hacc => F32.add_whole hk hacc (inUnit_iff.mp (ha k))

theorem fluxAggregate_nonneg (h : s.dyn.Bounded) : (fluxAggregate s.dyn).Rep ∧ (fluxAggregate s.dyn).Nonneg := by
  have hmag := energy_inRange h.mag
  have hprev := energy_inRange h.prev
  have hbound : RepInt (64 * 2 ^ 149) := repInt_whole (k := 64) (by decide)
  have hmagFin := hmag.finite repInt_zero hbound
  have hprevFin := hprev.finite repInt_zero hbound
  obtain ⟨-, hm0, hm1⟩ := hmag
  obtain ⟨-, hp0, hp1⟩ := hprev
  have hrise : ((energy s.dyn.wMag).sub (energy s.dyn.prevMag)).InRange (-(64 * 2 ^ 149)) (64 * 2 ^ 149) :=
    F32.sub_inRange hmagFin hprevFin (repInt_neg hbound) hbound (by omega) (by omega)
  exact div_sixtyFour_nonneg (rectify_inRange (by decide) hrise)

theorem fluxPerBin_nonneg (h : s.dyn.Bounded) : (fluxPerBin s.dyn).Rep ∧ (fluxPerBin s.dyn).Nonneg := by
  refine div_sixtyFour_nonneg (foldl_sixtyFour_inRange fun acc k n hn hacc => ?_)
  have hmag := inUnit_iff.mp (h.mag k)
  have hprev := inUnit_iff.mp (h.prev k)
  have hmagFin := hmag.finite repInt_zero repInt_one
  have hprevFin := hprev.finite repInt_zero repInt_one
  obtain ⟨-, hm0, hm1⟩ := hmag
  obtain ⟨-, hp0, hp1⟩ := hprev
  have hrise : ((val s.dyn.wMag[k]).sub (val s.dyn.prevMag[k])).InRange (-2 ^ 149) (2 ^ 149) :=
    F32.sub_inRange hmagFin hprevFin (repInt_neg repInt_one) repInt_one (by omega) (by omega)
  dsimp only
  unfold F32.gt
  split
  next hpos => exact F32.add_whole hn hacc ⟨hrise.1, (F32.lt_iff.mp hpos).2.2.le, hrise.2.2⟩
  next => exact hacc.mono le_rfl (by push_cast; omega)

theorem fluxOf_nonneg (h : s.dyn.Bounded) : (fluxOf s).Rep ∧ (fluxOf s).Nonneg := by
  unfold fluxOf
  split
  · exact rectify_nonneg (rep_orZero (F32.rep_ofBits _)) (orZero_finite _)
  · split
    · exact fluxAggregate_nonneg h
    · exact fluxPerBin_nonneg h

theorem decayedHist_finite (hc : s.cfg.Checked) (h : s.dyn.Bounded) (j : Fin 128) :
    isFinite (decayedHist s.cfg s.dyn)[j] = true := by
  rw [decayedHist, getElem_ofFn]
  exact isFinite_toBits (F32.rep_mul _ _)
    (F32.mul_unit_finite (F32.rep_ofBits _) (h.novHist j) (inUnit_iff.mp (hc (.scalar .novDecay))))

theorem State.onset_bounded (hc : s.cfg.Checked) (h : s.dyn.Bounded) : s.onset.dyn.Bounded := by
  obtain ⟨hrep, hflux⟩ := fluxOf_nonneg h
  unfold State.onset
  extract_lets flux mean baseline divisor nov xin
  iterate 4 rw [State.numfaultIf_dyn]
  have hmean : mean.Rep := F32.rep_div _ _
  have hstored {x : F32} (hx : x.Rep) : isFinite (orZero x).toBits = true :=
    isFinite_toBits (rep_orZero hx) (orZero_finite x)
  refine h.setOnset _ _ h.mag (fun j => ?_) (isNonneg_toBits hrep hflux) (hstored hmean) (hstored (F32.rep_div _ _))
    (hstored (F32.rep_div _ _))
  by_cases heq : s.dyn.novWptr.val = j.val
  · simpa [heq] using isFinite_toBits hrep hflux.1
  · simpa [Vector.getElem_set_ne, heq] using decayedHist_finite hc h j

/-! ## The tempo tracker (44_tempo.md R157 to R169) -/

/-- What one oscillator computes is in its ranges. -/
structure OscLane.Sound (l : OscLane) : Prop where
  re : isFinite l.re = true
  im : isFinite l.im = true
  raw : isNonneg l.raw = true
  phase : legalPhase l.phase = true
  smooth : isNonneg l.smooth = true

theorem smoothedOf_rank_nonneg {c : Cfg} (hc : c.Checked) (active : Bool) {smooth raw : F32}
    (hsmooth : 0 ≤ smooth.rank) (hraw : 0 ≤ raw.rank) : 0 ≤ (smoothedOf c active smooth raw).rank := by
  have hunit {w : Word} (hw : inUnit w = true) : 0 ≤ (val w).rank := (inUnit_iff.mp hw).2.1
  unfold smoothedOf
  split
  · exact F32.add_rank_nonneg (F32.mul_rank_nonneg (mul_nonneg hsmooth (hunit (hc (.scalar .actKeep)))))
      (F32.mul_rank_nonneg (mul_nonneg hraw (hunit (hc (.scalar .actGain)))))
  · exact F32.mul_rank_nonneg (mul_nonneg hsmooth (hunit (hc (.scalar .inactDecay))))

theorem rep_smoothedOf (c : Cfg) (active : Bool) (smooth raw : F32) : (smoothedOf c active smooth raw).Rep :=
  F32.rep_ite (F32.rep_add _ _) (F32.rep_mul _ _)

theorem oscActivity_sound (hc : s.cfg.Checked) (h : s.dyn.Bounded) (m : Fin 121) {re im raw phase : Word}
    (faults : Nat) (hre : isFinite re = true) (him : isFinite im = true) (hraw : isNonneg raw = true)
    (hphase : legalPhase phase = true) : (oscActivity s.cfg s.dyn m re im raw phase faults).Sound := by
  have hnonneg (active : Bool) := smoothedOf_rank_nonneg hc active (isNonneg_iff.mp (h.oscSmooth m)).2 (isNonneg_iff.mp hraw).2
  unfold oscActivity
  extract_lets active sm
  split
  next hfin => exact ⟨hre, him, hraw, hphase, isNonneg_toBits (rep_smoothedOf _ _ _ _) ⟨hfin, hnonneg active⟩⟩
  next => exact ⟨hre, him, hraw, hphase, h.oscSmooth m⟩

/-- A resonator takes its new values only where all are finite. -/
theorem oscLane_sound (hc : s.cfg.Checked) (h : s.dyn.Bounded) (m : Fin 121) :
    (oscLane s.cfg s.dyn m).Sound := by
  have hgain := (isNonneg_iff.mp (hc (.scalar .oscGain))).2
  unfold oscLane
  extract_lets cosine sine re0 im0 tr ti re1 im1 raw
  split
  next hfin =>
    rw [Bool.and_eq_true, Bool.and_eq_true] at hfin
    obtain ⟨⟨hre, him⟩, hraw⟩ := hfin
    obtain ⟨hrep, hphase⟩ := oscPhaseOf_legal him hre
    exact oscActivity_sound hc h m 0 (isFinite_toBits (F32.rep_add _ _) hre) (isFinite_toBits (F32.rep_mul _ _) him)
      (isNonneg_toBits (F32.rep_mul _ _) ⟨hraw, F32.mul_rank_nonneg (mul_nonneg (F32.sqrt_rank_nonneg _) hgain)⟩)
      (legalPhase_toBits hrep hphase)
  next =>
    obtain ⟨hre, him, hraw, -, hphase, -⟩ := h.oscillators m
    exact oscActivity_sound hc h m 1 hre him hraw hphase

theorem State.tempoOscillators_bounded (hc : s.cfg.Checked) (h : s.dyn.Bounded) :
    s.tempoOscillators.dyn.Bounded := by
  have hlane (m : Fin 121) : (Vector.ofFn (oscLane s.cfg s.dyn))[m].Sound := by
    rw [getElem_ofFn]
    exact oscLane_sound hc h m
  unfold State.tempoOscillators
  extract_lets lanes
  rw [State.numfaults_dyn]
  refine h.setOscillators _ (fun m => ?_) (fun m => ?_) (fun m => ?_) (fun m => ?_) fun m => ?_ <;> rw [getElem_ofFn]
  · exact (hlane m).re
  · exact (hlane m).im
  · exact (hlane m).raw
  · exact (hlane m).phase
  · exact (hlane m).smooth

theorem powerSumOf_ordered (h : s.dyn.Bounded) : (powerSumOf s.dyn).Rep ∧ (powerSumOf s.dyn).ordered = true := by
  have hsum : (powerSumOf s.dyn).Rep ∧ (powerSumOf s.dyn).ordered = true ∧ 0 ≤ (powerSumOf s.dyn).rank := by
    refine List.foldlRecOn (motive := fun ps : F32 => ps.Rep ∧ ps.ordered = true ∧ 0 ≤ ps.rank) _ _
      ⟨F32.rep_zero, rfl, le_rfl⟩ ?_
    rintro ps ⟨hrep, hord, hpos⟩ m -
    obtain ⟨hfin, hsmooth⟩ := isNonneg_iff.mp (h.oscSmooth m)
    split
    · exact ⟨F32.rep_add _ _, F32.add_ordered hpos hsmooth hord (F32.ordered_of_finite hfin),
        F32.add_rank_nonneg hpos hsmooth⟩
    · exact ⟨hrep, hord, hpos⟩
  exact ⟨hsum.1, hsum.2.1⟩

theorem State.tempoPower_bounded (h : s.dyn.Bounded) : s.tempoPower.dyn.Bounded := by
  obtain ⟨hrep, hord⟩ := powerSumOf_ordered h
  refine h.setPower _ ?_
  rwa [notNaN, val_toBits_self hrep]

/-- A share of a power sum above CONF_EPS, which is not below zero. -/
theorem shareOf_inRange (hc : s.cfg.Checked) (hpow : powered s = true) {smooth : Word}
    (hsmooth : isNonneg smooth = true) : (shareOf s smooth).InRange 0 (2 ^ 149) := by
  have heps := (isNonneg_iff.mp (hc (.scalar .confEps))).2
  have hgt := (F32.lt_iff.mp hpow).2.2
  exact F32.fmin_one_inRange (F32.div_rank_nonneg (isNonneg_iff.mp hsmooth).2 (heps.trans_lt hgt))

theorem rep_shareOf (smooth : Word) : (shareOf s smooth).Rep := F32.rep_fmin F32.rep_one (F32.rep_div _ _)

theorem inUnit_zero_toBits : inUnit F32.zero.toBits = true := inUnit_zero

theorem State.tempoConfidence_bounded (hc : s.cfg.Checked) (h : s.dyn.Bounded) :
    s.tempoConfidence.dyn.Bounded := by
  unfold State.tempoConfidence
  split
  next hpow =>
    extract_lets share
    split
    · exact h.setConf (inUnit_toBits (rep_shareOf _) (shareOf_inRange hc hpow (h.oscSmooth _)))
    · exact h
  next => exact h.setConf inUnit_zero_toBits

theorem contribution_inRange (hc : s.cfg.Checked) (h : s.dyn.Bounded) (m : Fin 121) :
    (contribution s m).Rep ∧ (contribution s m).InRange 0 (2 ^ 149) := by
  refine ⟨F32.rep_ite (rep_shareOf _) F32.rep_zero, ?_⟩
  unfold contribution
  split
  next hcontrib =>
    rw [contributes, Bool.and_eq_true] at hcontrib
    exact shareOf_inRange hc hcontrib.2 (h.oscSmooth m)
  next => exact ⟨rfl, le_rfl, by decide⟩

theorem State.tempoContrib_bounded (hc : s.cfg.Checked) (h : s.dyn.Bounded) :
    s.tempoContrib.dyn.Bounded := by
  unfold State.tempoContrib
  rw [State.numfaults_dyn]
  refine h.setContrib fun m => ?_
  rw [getElem_ofFn]
  obtain ⟨hrep, hrange⟩ := contribution_inRange hc h m
  split
  · exact inUnit_toBits hrep hrange
  · exact inUnit_zero_toBits

theorem State.tempoBpm_bounded (hc : s.cfg.Checked) (h : s.dyn.Bounded) : s.tempoBpm.dyn.Bounded := by
  unfold State.tempoBpm
  split
  · split
    · exact h.setBpm _ (hc (.osc .bpm _))
    · exact h
  · exact h

theorem rep_wrapPhase {p : F32} (hp : p.Rep) : (wrapPhase p).1.Rep := by
  unfold wrapPhase
  split
  · exact F32.rep_sub _ _
  · split
    · exact F32.rep_add _ _
    · exact hp

/-- A phase is stored only where it is legal. -/
theorem State.tempoPhase_bounded (e : Nat) (h : s.dyn.Bounded) : (s.tempoPhase e).dyn.Bounded := by
  unfold State.tempoPhase
  split
  · split
    next hlegal => exact h.setPhase _ (legalPhase_toBits (rep_wrapPhase (F32.rep_add _ _)) hlegal)
    next => exact h
  · exact h

theorem State.tempoLock_bounded (h : s.dyn.Bounded) : s.tempoLock.dyn.Bounded :=
  h.setBeat _ (inHalfOpenUnit_toBits (F32.rep_ite F32.rep_zero (F32.rep_div _ _)) (phase01Of_range h.phase))

theorem State.tempo_bounded (hc : s.cfg.Checked) (h : s.dyn.Bounded) : s.tempo.dyn.Bounded := by
  have hosc := State.tempoOscillators_bounded hc h
  have hpow := State.tempoPower_bounded hosc
  have hconf := State.tempoConfidence_bounded (by simpa using hc) hpow
  have hcontrib := State.tempoContrib_bounded (by simpa using hc) hconf
  have hbpm := State.tempoBpm_bounded (by simpa using hc) hcontrib
  exact State.tempoLock_bounded (State.tempoPhase_bounded _ hbpm)

/-! ## The hop and the result bank (40_sequencer.md R126, 45_commit.md R170) -/

theorem State.published_clean (h : s.dyn.Bounded) : s.published.Clean := by
  have hbins := h.bins
  obtain ⟨-, ⟨hflux, -, hnovelty, -⟩, -, hconf, hbpm, hphase, hbeat, hpower⟩ := h
  refine ⟨fun k => ?_, hnovelty, hbpm, hbeat, hconf, hphase, (isNonneg_iff.mp hflux).1, hpower⟩
  obtain ⟨hmag, hfast, hslow, -⟩ := hbins k
  exact ⟨hmag, hfast, hslow⟩

theorem State.hop_bounded (hc : s.cfg.Checked) (h : s.dyn.Bounded) : s.hop.dyn.Bounded ∧ s.hop.res.Clean := by
  have hpush := s.pushChunk_sameNumbers.bounded h
  have hgoertzel := State.goertzel_bounded (by simpa using hc) hpush
  have honset := State.onset_bounded (by simpa using hc) hgoertzel
  have htempo := State.tempo_bounded (by simpa using hc) honset
  exact ⟨htempo, State.published_clean (s := s.pushChunk.goertzel.onset.tempo.countHop) htempo⟩

end
end Sys2Proof.Machine
end

section
/-! Every step keeps the numbers in their ranges: the host's accesses write none of them, or clear them all, and the commands
that compute need ENABLE, under which the configuration has passed its check (40_sequencer.md R120, 20_memory.md R108). -/

namespace Sys2Proof.Machine

/-- What a host access does to the numbers: nothing, or it clears the dynamic state by a successful enable. -/
theorem exec_access_sameNumbers {i : Instr} {s t : State} (hi : i.opcode = none) (h : exec i s = .next t) :
    s.dyn.SameNumbers t.dyn ∨ t.dyn = Dyn.reset := by
  cases i with
  | wrCtrl v =>
    cases h
    split
    · exact .inl (.of_eq rfl)
    · split
      · exact .inl (.of_eq (s.writeCtrlEnabled_dyn v))
      · exact (s.writeCtrlDisabled_dyn v).imp_left .of_eq
  | wrCmd v => cases h; exact .inl (.of_eq (s.accept_dyn v))
  | wrStatus v => cases h; exact .inl (.of_eq rfl)
  | wrErr v => cases h; exact .inl (.of_eq rfl)
  | wrIrqEn v => cases h; exact .inl (.of_eq rfl)
  | wrSampleIn v =>
    cases h
    refine .inl ?_
    split
    · exact .of_eq rfl
    · split
      · exact .of_eq rfl
      · exact s.stageOne_sameNumbers _
  | wrSamplePair v =>
    cases h
    refine .inl ?_
    split
    · exact .of_eq rfl
    · split
      · exact .of_eq rfl
      · exact (s.stageOne_sameNumbers _).trans (State.stageOne_sameNumbers _ _)
  | wrRuntime off v =>
    simp only [exec, execWrRuntime] at h
    (repeat' split at h) <;> cases h <;> exact .inl (.of_eq rfl)
  | wrCfg off v =>
    simp only [exec, execWrCfg] at h
    (repeat' split at h) <;> cases h <;> exact .inl (.of_eq rfl)
  | wrOther size off v =>
    simp only [exec, execWrOther] at h
    split at h <;> cases h
    exact .inl (.of_eq rfl)
  | rd size off =>
    cases h
    refine .inl ?_
    split <;> exact .of_eq rfl
  | _ => cases hi

section
variable {i : Instr} {s t : State}

theorem exec_access_keepsNumbers (hi : i.opcode = none) (h : exec i s = .next t) (hs : s.NumbersBounded) :
    t.NumbersBounded := by
  rw [State.numbersBounded_iff] at hs ⊢
  obtain ⟨hdyn, hres⟩ := hs
  have hkept : t.res = s.res := (exec_accessMove hi h).res_eq
  refine ⟨?_, hkept ▸ hres⟩
  obtain hsame | hreset := exec_access_sameNumbers hi h
  · exact hsame.bounded hdyn
  · exact hreset ▸ Dyn.bounded_reset

theorem State.complete_numbersBounded (hdyn : s.dyn.Bounded) (hres : s.res.Clean) : s.complete.NumbersBounded :=
  s.complete.numbersBounded_iff.mpr ⟨hdyn, hres⟩

/-- The commands that need ENABLE run under a configuration that passed its check; the others compute no number. -/
theorem exec_command_keepsNumbers {op : BitVec 8} (hi : i.opcode = some op)
    (hc : needsEnable op = true → s.cfg.Checked) (h : exec i s = .next t) (hs : s.NumbersBounded) :
    t.NumbersBounded := by
  obtain ⟨hdyn, hres⟩ := s.numbersBounded_iff.mp hs
  cases i with
  | nop => cases h; exact State.complete_numbersBounded hdyn hres
  | pushChunk =>
    cases h
    split
    · exact State.complete_numbersBounded (s.pushChunk_sameNumbers.bounded hdyn) (by rwa [State.pushChunk_res])
    · exact State.complete_numbersBounded hdyn hres
  | runGoertzel =>
    cases h; cases hi
    exact State.complete_numbersBounded (State.goertzel_bounded (hc rfl) hdyn) (by rwa [State.goertzel_res])
  | runOnset =>
    cases h; cases hi
    exact State.complete_numbersBounded (State.onset_bounded (hc rfl) hdyn) (by rwa [State.onset_res])
  | runTempo =>
    cases h; cases hi
    exact State.complete_numbersBounded (State.tempo_bounded (hc rfl) hdyn) (by rwa [State.tempo_res])
  | commit => cases h; exact State.complete_numbersBounded hdyn (State.published_clean hdyn)
  | hop =>
    cases h; cases hi
    split
    · obtain ⟨hdyn', hres'⟩ := State.hop_bounded (hc rfl) hdyn
      exact State.complete_numbersBounded hdyn' hres'
    · exact State.complete_numbersBounded hdyn hres
  | skipHop =>
    cases h
    have hskip : s.dyn.SameNumbers s.skipHop.dyn := rfl
    exact State.complete_numbersBounded (hskip.bounded hdyn) hres
  | clearState => cases h; exact State.complete_numbersBounded Dyn.bounded_reset hres
  | softReset => cases h; exact State.complete_numbersBounded Dyn.bounded_reset Results.clean_reset
  | _ => cases hi

end

/-- Settles O57: a step runs nothing, an access, or the command in the latch, whose need of ENABLE the latch vouches for. -/
theorem stepKeepsTheNumbersBounded : Obligations.StepKeepsTheNumbersBounded := by
  intro s t hlatch hchecked hs h
  obtain ⟨rfl, -⟩ | ⟨ts, i, hbusy, hdec, hexec⟩ | ⟨r, rest, ts, i, -, hdec, hexec⟩ := step_cases h
  · exact hs
  · refine exec_command_keepsNumbers ((decode_pendingBytes_eq_ok_iff s i).mp hdec) (fun hneeds => ?_) hexec hs
    obtain ⟨hvalid, -⟩ := hchecked ((hlatch hbusy).2 hneeds)
    exact Cfg.check_of_validate hvalid
  · rw [decode_accessBytes] at hdec
    exact exec_access_keepsNumbers (decodeAccess_ok hdec).1 hexec hs

end Sys2Proof.Machine
end

section
/-! HOP as five commands (40_sequencer.md R126): a completion writes LAST_CYCLES, the count of draws, BUSY and DONE, and no stage
after the first reads any of them, so a completion between two stages changes nothing of the next one's work. -/

namespace Sys2Proof.Machine

/-! ## The fields a completion writes (40_sequencer.md R121) -/

/-- The values of LAST_CYCLES, the count of drawn values, BUSY and DONE. -/
structure Stamp where
  lastCycles : Word
  draws : Nat
  busy : Bool
  done : Bool

/-- `s` with these four fields overwritten. -/
def State.stamped (s : State) (c : Stamp) : State :=
  { s with lastCycles := c.lastCycles, draws := c.draws, busy := c.busy, done := c.done }

/-- `t` is `s` with BUSY clear, DONE set and the cycle count and the draws of its own: what any completion makes of `s`. -/
def State.CompletesTo (s t : State) : Prop := t = s.stamped ⟨t.lastCycles, t.draws, false, true⟩

theorem State.completesTo_complete (s : State) : s.CompletesTo s.complete := rfl

theorem State.numfault_stamped (s : State) (c : Stamp) : (s.stamped c).numfault = s.numfault.stamped c := rfl

theorem State.numfaults_stamped (s : State) (c : Stamp) (n : Nat) :
    (s.stamped c).numfaults n = (s.numfaults n).stamped c := by
  induction n generalizing s with
  | zero => rfl
  | succ n ih => rw [State.numfaults_succ, State.numfault_stamped, ih, State.numfaults_succ]

theorem State.numfaultIf_stamped (s : State) (c : Stamp) (b : Bool) :
    (s.stamped c).numfaultIf b = (s.numfaultIf b).stamped c := by
  cases b <;> rfl

theorem State.ite_stamped (p : Prop) [Decidable p] (s t : State) (c : Stamp) :
    (if p then s else t).stamped c = if p then s.stamped c else t.stamped c :=
  apply_ite (State.stamped · c) p s t

/-! ## No stage from the filter bank on reads these fields -/

theorem State.storeLanes_stamped (s : State) (c : Stamp) (l : Vector BinLane 64) :
    (s.stamped c).storeLanes l = (s.storeLanes l).stamped c := by
  unfold State.storeLanes
  rw [← State.numfaults_stamped]
  rfl

theorem State.normalise_stamped (s : State) (c : Stamp) (l : Vector BinLane 64) :
    (s.stamped c).normalise l = (s.normalise l).stamped c := by
  unfold State.normalise
  rw [State.ite_stamped]
  rfl

theorem State.goertzel_stamped (s : State) (c : Stamp) : (s.stamped c).goertzel = s.goertzel.stamped c := by
  have hlanes : (s.stamped c).binLanes = s.binLanes := rfl
  rw [State.goertzel, hlanes, State.storeLanes_stamped, State.normalise_stamped]
  rfl

theorem State.onset_stamped (s : State) (c : Stamp) : (s.stamped c).onset = s.onset.stamped c := by
  have hfault : fluxFault (s.stamped c) = fluxFault s := rfl
  unfold State.onset
  extract_lets
  simp only [← State.numfaultIf_stamped, hfault]
  rfl

theorem State.tempoOscillators_stamped (s : State) (c : Stamp) :
    (s.stamped c).tempoOscillators = s.tempoOscillators.stamped c := by
  unfold State.tempoOscillators
  extract_lets
  rw [← State.numfaults_stamped]
  rfl

theorem State.tempoPower_stamped (s : State) (c : Stamp) : (s.stamped c).tempoPower = s.tempoPower.stamped c := rfl

theorem State.tempoConfidence_stamped (s : State) (c : Stamp) :
    (s.stamped c).tempoConfidence = s.tempoConfidence.stamped c := by
  simp only [State.tempoConfidence, State.ite_stamped]
  rfl

theorem State.tempoContrib_stamped (s : State) (c : Stamp) :
    (s.stamped c).tempoContrib = s.tempoContrib.stamped c := by
  unfold State.tempoContrib
  rw [← State.numfaults_stamped]
  rfl

theorem State.tempoBpm_stamped (s : State) (c : Stamp) : (s.stamped c).tempoBpm = s.tempoBpm.stamped c := by
  simp only [State.tempoBpm, State.ite_stamped]
  rfl

theorem State.tempoPhase_stamped (s : State) (c : Stamp) (e : Nat) :
    (s.stamped c).tempoPhase e = (s.tempoPhase e).stamped c := by
  simp only [State.tempoPhase, State.ite_stamped]
  rfl

theorem State.tempoLock_stamped (s : State) (c : Stamp) : (s.stamped c).tempoLock = s.tempoLock.stamped c := rfl

theorem State.tempo_stamped (s : State) (c : Stamp) : (s.stamped c).tempo = s.tempo.stamped c := by
  have helapsed : elapsedHops (s.stamped c).dyn = elapsedHops s.dyn := rfl
  rw [State.tempo, helapsed, State.tempoOscillators_stamped, State.tempoPower_stamped, State.tempoConfidence_stamped,
    State.tempoContrib_stamped, State.tempoBpm_stamped, State.tempoPhase_stamped, State.tempoLock_stamped]
  rfl

theorem State.commit_stamped (s : State) (c : Stamp) : (s.stamped c).commit = s.commit.stamped c := rfl

/-- A stage that does not read these fields can be run and completed after a completion of the stage before it. -/
theorem State.CompletesTo.stage {s t : State} {f : State → State} (h : s.CompletesTo t)
    (hf : ∀ c, f (s.stamped c) = (f s).stamped c) : (f s).CompletesTo (f t).complete := by
  have ht : f t = (f s).stamped ⟨t.lastCycles, t.draws, false, true⟩ := (congrArg f h).trans (hf _)
  rw [ht]
  rfl

/-- Settles O53: each stage command completes the state the stages of a HOP up to it leave, and HOP_COUNT is read by COMMIT
alone. -/
theorem hopIsTheFiveCommands : Obligations.HopIsTheFiveCommands := by
  intro s t1 t2 t3 t4 t5 t hfull h1 h2 h3 h4 h5 h
  simp only [exec, execPushChunk, if_pos hfull] at h1
  simp only [exec, execHop, if_pos hfull] at h
  cases h1; cases h2; cases h3; cases h4; cases h5; cases h
  have hcommit :=
    ((((s.pushChunk.completesTo_complete).stage (State.goertzel_stamped _)).stage (State.onset_stamped _)).stage
      (State.tempo_stamped _)).stage (State.commit_stamped _)
  unfold State.CompletesTo at hcommit
  rw [State.hop, hcommit]
  generalize s.pushChunk.goertzel.onset.tempo = u
  rfl

end Sys2Proof.Machine
end

section
/-! What a HOP leaves (40_sequencer.md R126): each word a stage writes is still there when the hop completes, since no later
stage of the hop writes it. -/

namespace Sys2Proof.Machine

/-! ## The raw magnitudes (42_goertzel.md R143, R144) -/

/-- A raw magnitude is computed from the history and its cursor alone. -/
theorem binRaw_congr {d e : Dyn} (c : Cfg) (hhist : e.hist = d.hist) (hwptr : e.histWptr = d.histWptr) (k : Fin 64) :
    binRaw c e k = binRaw c d k := by
  have hwindow (n : Nat) : windowed c e n = windowed c d n := by
    simp only [windowed, windowSample, hhist, hwptr]
  simp only [binRaw, hwindow]

theorem binLane_raw_toBits (c : Cfg) (d : Dyn) (k : Fin 64) :
    (binLane c d k).raw.toBits =
      if (binRaw c d k).finite && ((binRaw c d k).mul (val c.binGain[k])).finite then (binRaw c d k).toBits else 0#32 := by
  simp only [binLane]
  split <;> rfl

theorem State.goertzel_wRaw (s : State) (k : Fin 64) : s.goertzel.dyn.wRaw[k] = (binLane s.cfg s.dyn k).raw.toBits := by
  rw [State.goertzel, State.smooth_dyn, State.normalise_dyn]
  simp [State.storeLanes, State.binLanes]

/-! ## The onset detector (43_onset.md R153, R156) -/

theorem State.onset_prevMag (s : State) : s.onset.dyn.prevMag = s.dyn.wMag := by simp [State.onset]

theorem State.onset_novWptr (s : State) : s.onset.dyn.novWptr = s.dyn.novWptr + 1 := by simp [State.onset]

theorem State.onset_novHist_newest (s : State) : s.onset.dyn.novHist[s.dyn.novWptr] = s.onset.dyn.wFlux := by
  simp [State.onset]

/-! ## What the later stages leave alone -/

theorem State.goertzel_novWptr (s : State) : s.goertzel.dyn.novWptr = s.dyn.novWptr := by
  rw [State.goertzel, State.smooth_dyn, State.normalise_dyn, State.storeLanes_dyn]

theorem State.onset_bins (s : State) : s.onset.dyn.wRaw = s.dyn.wRaw ∧ s.onset.dyn.wMag = s.dyn.wMag := by
  rw [State.onset_dyn]
  exact ⟨rfl, rfl⟩

/-- The words of the filter bank and of the onset detector that a hop's end still shows. -/
structure Features where
  wRaw : Vector Word 64
  wMag : Vector Word 64
  prevMag : Vector Word 64
  novHist : Vector Word 128
  novWptr : Fin 128
  wFlux : Word

/-- These words of a dynamic state. -/
def Dyn.features (d : Dyn) : Features := ⟨d.wRaw, d.wMag, d.prevMag, d.novHist, d.novWptr, d.wFlux⟩

theorem State.tempo_features (s : State) : s.tempo.dyn.features = s.dyn.features := by
  rw [State.tempo, State.tempoLock_dyn]
  dsimp only [Dyn.features]
  rw [State.tempoPhase_dyn, State.tempoBpm_dyn, State.tempoContrib_dyn, State.tempoConfidence_dyn, State.tempoPower_dyn,
    State.tempoOscillators_dyn]

theorem State.tempo_elapsedPend (s : State) : s.tempo.dyn.elapsedPend = 0 := by
  rw [State.tempo, State.tempoLock_dyn, State.tempoPhase_dyn, State.tempoBpm_dyn, State.tempoContrib_dyn,
    State.tempoConfidence_dyn, State.tempoPower_dyn]
  simp [State.tempoOscillators]

/-! ## The whole hop -/

theorem State.hop_features (s : State) : s.hop.dyn.features = s.pushChunk.goertzel.onset.dyn.features := by
  rw [State.hop, State.commit_dyn, State.countHop_dyn, State.tempo_features]

theorem State.hop_elapsedPend (s : State) : s.hop.dyn.elapsedPend = 0 := by
  rw [State.hop, State.commit_dyn, State.countHop_dyn, State.tempo_elapsedPend]

theorem State.pushChunk_novWptr (s : State) : s.pushChunk.dyn.novWptr = s.dyn.novWptr := by
  unfold State.pushChunk
  rw [(State.pushSamples_frame _ s).2.2]
  rfl

theorem State.pushChunk_stageCount (s : State) : s.pushChunk.dyn.stageCount = 0 := rfl

/-- The filter bank ran over the history the hop leaves. -/
theorem State.hop_wRaw (s : State) (k : Fin 64) : s.hop.dyn.wRaw[k] =
    if (binRaw s.cfg s.hop.dyn k).finite && ((binRaw s.cfg s.hop.dyn k).mul (val s.cfg.binGain[k])).finite
      then (binRaw s.cfg s.hop.dyn k).toBits else 0#32 := by
  have hraw : s.hop.dyn.wRaw = s.pushChunk.goertzel.onset.dyn.wRaw := congrArg Features.wRaw s.hop_features
  obtain ⟨hkeep, -⟩ := s.pushChunk.goertzel.onset_bins
  have hbin := binRaw_congr s.cfg (congrArg Buffers.hist s.hop_buffers) (congrArg Buffers.histWptr s.hop_buffers) k
  rw [hraw, hkeep, State.goertzel_wRaw, binLane_raw_toBits, State.pushChunk_cfg, ← hbin]

/-- The onset detector took the magnitudes of this hop, and its flux is the newest entry of the history of fluxes. -/
theorem State.hop_onset (s : State) : s.hop.dyn.prevMag = s.hop.dyn.wMag ∧
    s.hop.dyn.novHist[s.dyn.novWptr] = s.hop.dyn.wFlux ∧ s.hop.dyn.novWptr = s.dyn.novWptr + 1 := by
  have hfeatures := s.hop_features
  have hcursor : s.pushChunk.goertzel.dyn.novWptr = s.dyn.novWptr := by
    rw [State.goertzel_novWptr, State.pushChunk_novWptr]
  generalize s.pushChunk.goertzel = u at hfeatures hcursor
  obtain ⟨-, hmag⟩ := u.onset_bins
  simp only [Dyn.features, Features.mk.injEq] at hfeatures
  obtain ⟨-, hmag', hprev, hhist, hwptr, hflux⟩ := hfeatures
  rw [hprev, hmag', hhist, hwptr, hflux, hmag]
  simp only [← hcursor]
  exact ⟨u.onset_prevMag, u.onset_novHist_newest, u.onset_novWptr⟩

theorem State.hop_hopCount (s : State) : s.hop.hopCount = wrapIncr s.hopCount := by
  simp [State.hop, State.countHop]

theorem State.hop_onsetEvt (s : State) : s.hop.onsetEvt = (s.onsetEvt || s.hop.dyn.wOnset) := by
  simp [State.hop, State.commit]

/-- The bank a hop leaves shows the working values and the count it leaves. -/
theorem State.hop_res (s : State) : s.hop.res = { s.hop.published with seq := s.hop.res.seq } := by
  rw [State.hop]
  generalize s.pushChunk.goertzel.onset.tempo.countHop = u
  rfl

theorem toNat_add_one (w : Word) : (w + 1#32).toNat = (w.toNat + 1) % 2 ^ 32 := BitVec.toNat_add w 1#32

/-- Settles O52: a hop is its five stages, and nothing of a stage's work but what a later stage writes is lost. -/
theorem hopRunsOrUnderruns : Obligations.HopRunsOrUnderruns := by
  intro s
  refine ⟨_, rfl, ?_⟩
  by_cases hfull : s.dyn.stageCount.val = 128
  · rw [if_pos hfull]
    refine ⟨⟨rfl, rfl, ?_⟩, fun hpartial => absurd hfull hpartial, fun _ => ?_⟩
    · simp
    · obtain ⟨-, hwptr, hfill, -⟩ := s.pushChunk_buffers
      obtain ⟨hprev, hflux, hcursor⟩ := s.hop_onset
      obtain ⟨-, hseq⟩ := s.hop_control
      have hwptr' := congrArg Buffers.histWptr s.hop_buffers
      have hfill' := congrArg Buffers.histFill s.hop_buffers
      have hcount' := congrArg Buffers.stageCount s.hop_buffers
      refine ⟨?_, ?_, ?_, s.hop_wRaw, hprev, hflux, ?_, ?_, ?_, ?_, s.hop_res, s.hop_onsetEvt, ?_⟩
      · exact (congrArg Fin.val hwptr').trans hwptr
      · exact (congrArg Fin.val hfill').trans hfill
      · exact congrArg Fin.val hcount'
      · rw [State.complete_dyn, hcursor, Fin.val_add]
        rfl
      · exact congrArg Fin.val s.hop_elapsedPend
      · rw [State.complete_hopCount, State.hop_hopCount, wrapIncr, toNat_add_one]
      · rw [State.complete_res, hseq, toNat_add_one]
      · simp [State.complete]
  · rw [if_neg hfull]
    exact ⟨⟨rfl, rfl, rfl, rfl, rfl⟩, fun _ => rfl, fun hwhole => absurd hwhole hfull⟩

end Sys2Proof.Machine
end

section
/-! The enable check (40_sequencer.md R128): the words are visited in ascending offset order, so the first that fails has the
lowest offset of those that fail. -/

namespace Sys2Proof.Machine

/-! ## The order of the check -/

/-- The words of the list ascend strictly and stand between two offsets. -/
def Ascending (lo hi : Nat) (l : List CfgWord) : Prop :=
  l.Pairwise (fun w w' => w.offset < w'.offset) ∧ ∀ w ∈ l, lo ≤ w.offset ∧ w.offset < hi

theorem Ascending.append {lo mid hi : Nat} {l l' : List CfgWord} (h : Ascending lo mid l) (h' : Ascending mid hi l')
    (hlo : lo ≤ mid := by decide) (hhi : mid ≤ hi := by decide) : Ascending lo hi (l ++ l') := by
  obtain ⟨hord, hmem⟩ := h
  obtain ⟨hord', hmem'⟩ := h'
  refine ⟨List.pairwise_append.mpr ⟨hord, hord', fun w hw w' hw' => ?_⟩, fun w hw => ?_⟩
  · exact (hmem w hw).2.trans_le (hmem' w' hw').1
  · obtain hw | hw := List.mem_append.mp hw
    · exact ⟨(hmem w hw).1, (hmem w hw).2.trans_le hhi⟩
    · exact ⟨hlo.trans (hmem' w hw).1, (hmem' w hw).2⟩

/-- The elements of an array ascend with their index. -/
theorem Ascending.array {base n hi : Nat} {f : Fin n → CfgWord} (hf : ∀ i, (f i).offset = base + 4 * i.val)
    (hhi : base + 4 * n ≤ hi := by decide) : Ascending base hi ((List.finRange n).map f) := by
  refine ⟨List.pairwise_map.mpr ((List.pairwise_lt_finRange n).imp fun {i j} hlt => ?_), fun w hw => ?_⟩
  · rw [hf, hf]
    omega
  · obtain ⟨i, -, rfl⟩ := List.mem_map.mp hw
    rw [hf]
    omega

theorem ascending_scalars : Ascending 0x80 0x800 (CfgReg.all.map .scalar) := by
  refine ⟨List.pairwise_map.mpr (by decide), fun w hw => ?_⟩
  obtain ⟨r, -, rfl⟩ := List.mem_map.mp hw
  obtain ⟨hlo, hhi⟩ := r.offset_bounds
  exact ⟨hlo, Nat.lt_of_le_of_lt hhi (by decide)⟩

theorem ascending_binTables :
    Ascending 0x800 0x1000 ([BinTable.freq, .cos, .sin, .n, .gain].flatMap fun t => (List.finRange 64).map (.bin t)) := by
  simp only [List.flatMap_cons, List.flatMap_nil, List.append_nil]
  have table (t : BinTable) : Ascending t.base (t.base + 0x100) ((List.finRange 64).map (.bin t)) :=
    .array (fun _ => rfl) (le_refl (t.base + 4 * 64))
  exact (table .freq).append ((table .cos).append ((table .sin).append ((table .n).append (.array fun _ => rfl))))

theorem ascending_oscTables :
    Ascending 0x1000 0x2000 ([OscTable.bpm, .omega, .cos, .sin].flatMap fun t => (List.finRange 121).map (.osc t)) := by
  simp only [List.flatMap_cons, List.flatMap_nil, List.append_nil]
  have table (t : OscTable) : Ascending t.base (t.base + 0x200) ((List.finRange 121).map (.osc t)) :=
    .array (fun _ => rfl) (by omega)
  exact (table .bpm).append ((table .omega).append ((table .cos).append (.array fun _ => rfl)))

theorem CfgWord.all_ascending : Ascending 0x80 0x6000 CfgWord.all :=
  ((ascending_scalars.append ascending_binTables).append ascending_oscTables).append (.array fun _ => rfl)

/-! ## What the check answers -/

theorem Cfg.validate_eq_none_iff (c : Cfg) : c.validate = none ↔ ∀ w, c.check w = true :=
  ⟨Cfg.check_of_validate, Cfg.validate_eq_none⟩

/-- Every word below the one reported passes: it is visited earlier. -/
theorem Cfg.check_of_lt_validate {c : Cfg} {w w' : CfgWord} (h : c.validate = some w) (hlt : w'.offset < w.offset) :
    c.check w' = true := by
  obtain ⟨-, before, after, hall, hbefore⟩ := List.find?_eq_some_iff_append.mp h
  obtain ⟨hord, -⟩ := CfgWord.all_ascending
  have hmem := w'.mem_all
  rw [hall] at hord hmem
  obtain hmem | hmem := List.mem_append.mp hmem
  · simpa using hbefore w' hmem
  · have hle : w.offset ≤ w'.offset := by
      obtain rfl | hmem := List.mem_cons.mp hmem
      · exact le_rfl
      · exact (List.rel_of_pairwise_cons (List.pairwise_append.mp hord).2.1 hmem).le
    omega

theorem inCount_iff (n : Nat) (v : Word) : inCount n v = true ↔ 1 ≤ v.toNat ∧ v.toNat ≤ n := by
  simp [inCount]

theorem Cfg.checkFreq_zero (c : Cfg) : c.checkFreq 0 = isPositive c.binFreq[0] := by
  simp [Cfg.checkFreq]

theorem Cfg.checkFreq_succ (c : Cfg) (k : Fin 63) : c.checkFreq k.succ =
    (isPositive c.binFreq[k.val + 1] && (val c.binFreq[k.val + 1]).gt (val c.binFreq[k.val])) := by
  simp [Cfg.checkFreq]

/-- Settles O16: the list the check goes through is complete and ascends, and each word's check is the one R128 states. -/
theorem enableCheck : Obligations.EnableCheck := by
  intro c
  refine ⟨c.validate_eq_none_iff, fun w h => ⟨Cfg.check_of_validate_some h, fun _ => Cfg.check_of_lt_validate h⟩,
    ?_, ?_, ?_, ?_, rfl, inCount_iff _ _, c.checkFreq_zero, c.checkFreq_succ,
    fun k => ⟨rfl, rfl, inCount_iff _ _, rfl⟩, fun m => ⟨rfl, rfl, rfl, rfl⟩, fun j => rfl⟩
  all_goals
    simp only [List.forall_mem_cons, List.not_mem_nil, false_implies, implies_true, and_true]
    and_intros <;> rfl

end Sys2Proof.Machine
end

section
/-! The host's writes and reads (40_sequencer.md R120, R127, R129 to R134). -/

namespace Sys2Proof.Machine

/-! ## CMD (R120) -/

theorem needsEnable_iff (op : BitVec 8) : needsEnable op = true ↔ 0x01#8 ≤ op ∧ op ≤ 0x07#8 := by
  simp [needsEnable]

/-- Settles O14: acceptance has four outcomes, one per line of the statement. -/
theorem commandAcceptance : Obligations.CommandAcceptance := by
  intro v s
  have hneeds : needsEnable (commandOp v) = true ∧ s.enabled = false ↔
      (0x01#8 ≤ v.extractLsb' 0 8 ∧ v.extractLsb' 0 8 ≤ 0x07#8) ∧ s.ctrl.getLsbD 0 = false :=
    and_congr_left' (needsEnable_iff _)
  refine ⟨_, rfl, ?_⟩
  rw [← if_congr hneeds rfl rfl]
  have hlegal (hmbz : commandMbz v = 0#24) (hop : commandOp v ≤ 0x09#8) :
      ¬ (v.extractLsb' 8 24 ≠ 0#24 ∨ 0x09#8 < v.extractLsb' 0 8) :=
    not_or.mpr ⟨not_not.mpr hmbz, BitVec.not_lt.mpr hop⟩
  obtain ⟨hbusy, heq⟩ | ⟨hidle, hillegal, heq⟩ | ⟨hidle, hmbz, hop, hneed, hoff, heq⟩ | ⟨hidle, hmbz, hop, hneed, heq⟩ :=
    s.accept_cases v
  · rw [heq, if_pos hbusy]
  · rw [heq, hidle, if_neg Bool.false_ne_true]
    exact (if_pos hillegal).symm
  · rw [heq, hidle, if_neg Bool.false_ne_true, if_neg (hlegal hmbz hop), if_pos ⟨hneed, hoff⟩]
  · have henabled : ¬ (needsEnable (commandOp v) = true ∧ s.enabled = false) := fun ⟨hneeds, hoff⟩ => by
      rw [hneed hneeds] at hoff
      cases hoff
    rw [heq, hidle, if_neg Bool.false_ne_true, if_neg (hlegal hmbz hop), if_neg henabled]
    rfl

/-! ## Configuration words (R129) -/

theorem execWrCfg_eq {off : Offset} {w : CfgWord} (v : Word) (s : State) (hw : cfgAt off.toNat = some w) :
    exec (.wrCfg off v) s = .next (if s.busy then s.raiseErr .busyWrite
      else if s.enabled then s.raiseErr .cfgLocked else { s with cfg := s.cfg.set w v }) := by
  simp only [exec, execWrCfg, hw]

/-- Settles O17: the offset names the word that is written and read back. -/
theorem configurationWrite : Obligations.ConfigurationWrite := by
  intro off v s w hw
  have hslot : slotAt off = some (.cfg w) := slotAt_of_offset (cfgAt_answersAt _ w hw)
  rw [execWrCfg_eq v s hw]
  refine ⟨fun hbusy => ?_, fun hidle hen => ?_, fun hidle hoff => ⟨{ s with cfg := s.cfg.set w v }, ?_, ?_, ?_, rfl⟩⟩
  · rw [if_pos hbusy]
  · simp [hidle, hen]
  · simp [hidle, hoff]
  · simp only [State.wordAt, hslot, State.word, Cfg.get_set_same]
  · exact fun w' hne => Cfg.get_set_other s.cfg v hne

/-! ## The runtime registers, STATUS, ERR and IRQ_EN (R130 to R132) -/

/-- Settles O18: each offset names its register. -/
theorem runtimeWrite : Obligations.RuntimeWrite := fun _ _ => ⟨rfl, rfl⟩

theorem State.ackErr_getLsbD (s : State) (v : Word) {i : Nat} (hi : i < 11) :
    (s.ackErr v).err.getLsbD i = (s.err.getLsbD i && !v.getLsbD i) := by
  simp [hi]

theorem State.errAny_iff (s : State) : s.errAny = true ↔ ∃ i, i < 11 ∧ s.err.getLsbD i = true := by
  rw [State.errAny, bne_iff_ne, ne_eq, BitVec.eq_of_getLsbD_eq_iff]
  simp

/-- Settles O19: bit by bit. -/
theorem writeOneToClear : Obligations.WriteOneToClear := by
  intro v s
  refine ⟨⟨_, rfl, rfl, rfl, rfl⟩, ⟨_, rfl, fun i => s.ackErr_getLsbD v, ?_, rfl⟩⟩
  rw [State.errAny_iff]
  refine exists_congr fun i => and_congr_right fun hi => ?_
  rw [s.ackErr_getLsbD v hi, Bool.and_eq_true, Bool.not_eq_true']

theorem lowBits_three (v : Word) : (v.extractLsb' 0 3).setWidth 32 = v &&& 0x7#32 := by
  apply BitVec.eq_of_toNat_eq
  have hmask : v.toNat &&& 7 = v.toNat % 8 := Nat.and_two_pow_sub_one_eq_mod _ 3
  rw [BitVec.toNat_setWidth, BitVec.extractLsb'_toNat, BitVec.toNat_and, Nat.shiftRight_zero]
  show v.toNat % 8 % 4294967296 = v.toNat &&& 7
  omega

/-- Settles O20: the three bits kept are the three the interrupt level reads. -/
theorem interruptEnableWrite : Obligations.InterruptEnableWrite := by
  intro v s
  refine ⟨_, rfl, ?_, rfl, ?_⟩
  · exact lowBits_three v
  · simp [State.irq, State.errAny]

/-! ## Every other write (R133) -/

/-- Raising an error shows in ERR, ERR_INFO and STATUS only (60_exceptions.md R176). -/
theorem State.raiseErr_sameWords (s : State) (e : Err) :
    sameWords (fun x => decide (x = .err) || decide (x = .errInfo) || decide (x = .status)) s (s.raiseErr e) := by
  intro x hx
  cases x with
  | err => cases hx
  | errInfo => cases hx
  | status => cases hx
  | _ => rfl

theorem not_namedWrite_of_wf {size : AccessSize} {off : Offset} {v : Word} (h : (Instr.wrOther size off v).WellFormed) :
    ¬ (size = .word ∧ isNamedWrite off = true) := by
  rintro ⟨rfl, hnamed⟩
  simp [Instr.WellFormed, Instr.wf, hnamed] at h

/-- Settles O21: a well-formed access names no row above WR_OTHER, so it is not refused. -/
theorem otherWritesOnlyRaise : Obligations.OtherWritesOnlyRaise := fun _ _ _ s hwf =>
  ⟨_, if_neg (not_namedWrite_of_wf hwf), rfl, s.raiseErr_sameWords _⟩

/-! ## Reads (R134) -/

/-- Only a word read of a working-state word while a command runs is a draw (10_state.md R86). -/
theorem readsDraw_iff {s : State} {size : AccessSize} {off : Offset} :
    readsDraw s size off = true ↔ size = .word ∧ (∃ w, slotAt off = some (.work w)) ∧ s.busy = true := by
  unfold readsDraw
  split
  next w hslot => simp [hslot]
  next hne =>
    refine iff_of_false Bool.false_ne_true ?_
    rintro ⟨hword, ⟨w, hslot⟩, -⟩
    exact hne w hword hslot

/-- What a read that is no draw returns. -/
def State.readValue (s : State) (size : AccessSize) (off : Offset) : Word := if size = .word then s.wordAt off else 0#32

theorem execRd_draw {s : State} {size : AccessSize} {off : Offset} (h : readsDraw s size off = true) :
    exec (.rd size off) s = .next { s with readData := Config.busyReadDraw s.draws, draws := s.draws + 1 } := by
  simp only [exec, execRd, if_pos h]

theorem execRd_value {s : State} {size : AccessSize} {off : Offset} (h : readsDraw s size off ≠ true) :
    exec (.rd size off) s = .next { s with readData := s.readValue size off } := by
  simp only [exec, execRd, if_neg h]
  rfl

theorem State.readValue_word {s : State} {off : Offset} {x : Slot} (h : slotAt off = some x) :
    s.readValue .word off = s.word x := by
  simp only [State.readValue, State.wordAt, h, if_true]

theorem slotAt_misaligned {off : Offset} (h : off.toNat % 4 ≠ 0) : slotAt off = none :=
  slotAt_none_of_not_mapped fun hmapped => h hmapped.1

/-- A word read that R134 answers with 0 names no word. -/
theorem slotAt_none_of_unread {size : AccessSize} {off : Offset} (hword : size = .word)
    (h : size ≠ .word ∨ off.toNat % 4 ≠ 0 ∨ slotAt off = none) : slotAt off = none :=
  (h.resolve_left (not_not.mpr hword)).elim slotAt_misaligned id

theorem State.readValue_zero {s : State} {size : AccessSize} {off : Offset}
    (h : size ≠ .word ∨ off.toNat % 4 ≠ 0 ∨ slotAt off = none) : s.readValue size off = 0#32 := by
  by_cases hword : size = .word
  · simp [State.readValue, State.wordAt, slotAt_none_of_unread hword h]
  · exact if_neg hword

/-- The write-only registers are no working state and read 0 (10_state.md R30, R37, R38). -/
theorem slotAt_writeOnly {off : Offset} (h : off = 0x018#16 ∨ off = 0x034#16 ∨ off = 0x038#16) :
    ∃ x, slotAt off = some x ∧ (∀ w, x ≠ .work w) ∧ ∀ s : State, s.word x = 0#32 := by
  obtain rfl | rfl | rfl := h
  · exact ⟨.cmd, rfl, fun _ => Slot.noConfusion, fun _ => rfl⟩
  · exact ⟨.sampleIn, rfl, fun _ => Slot.noConfusion, fun _ => rfl⟩
  · exact ⟨.samplePair, rfl, fun _ => Slot.noConfusion, fun _ => rfl⟩

/-- Settles O22: a read is a draw or the value the offset names, and the clauses for the two exclude each other. -/
theorem readReturnsTheWord : Obligations.ReadReturnsTheWord := by
  intro size off s
  by_cases hdraw : readsDraw s size off = true
  · obtain ⟨hword, ⟨w, hslot⟩, hbusy⟩ := readsDraw_iff.mp hdraw
    refine ⟨_, execRd_draw hdraw, rfl, fun hzero => ?_, fun hoff => ?_, fun _ _ _ _ => ⟨rfl, rfl⟩, fun _ _ _ hidle => ?_,
      fun x _ hx hne => ?_⟩
    · cases hslot.symm.trans (slotAt_none_of_unread hword hzero)
    · obtain ⟨x, hx, hne, -⟩ := slotAt_writeOnly hoff
      exact absurd (Option.some.inj (hx.symm.trans hslot)) (hne w)
    · rw [hbusy] at hidle
      cases hidle
    · exact absurd (Option.some.inj (hx.symm.trans hslot)) (hne w)
  · refine ⟨_, execRd_value hdraw, rfl, State.readValue_zero, fun hoff => ?_, fun w hword hslot hbusy => ?_,
      fun w hword hslot _ => ?_, fun x hword hx _ => ?_⟩
    · obtain ⟨x, hx, -, hzero⟩ := slotAt_writeOnly hoff
      by_cases hword : size = .word
      · rw [hword]
        exact (State.readValue_word hx).trans (hzero s)
      · exact if_neg hword
    · exact absurd (readsDraw_iff.mpr ⟨hword, ⟨w, hslot⟩, hbusy⟩) hdraw
    · rw [hword]
      exact State.readValue_word hslot
    · rw [hword]
      exact State.readValue_word hx

end Sys2Proof.Machine
end

section
/-! NOP, SKIP_HOP, CLEAR_STATE and SOFT_RESET (40_sequencer.md R122 to R125). -/

namespace Sys2Proof.Machine

/-- A completion shows in STATUS and LAST_CYCLES only (40_sequencer.md R121). -/
theorem State.complete_sameWords (s : State) : sameWords completionSlot s s.complete := by
  intro x hx
  cases x with
  | status => cases hx
  | lastCycles => cases hx
  | _ => rfl

/-- Settles O48: NOP is a bare completion. -/
theorem nopOnlyCompletes : Obligations.NopOnlyCompletes := fun s =>
  ⟨s.complete, rfl, rfl, rfl, s.complete_sameWords, rfl⟩

/-- Settles O49: the count saturates and the emptied buffer is all zero. -/
theorem skipHopCountsAndDiscards : Obligations.SkipHopCountsAndDiscards := by
  intro s
  refine ⟨s.skipHop.complete, rfl, satIncr_toNat _, rfl, fun i => ?_, rfl, rfl⟩
  exact Vector.getElem_replicate i.isLt

/-! ## The cleared dynamic state (R123) -/

theorem Dyn.reset_get (w : WorkWord) : Dyn.reset.get w = 0#32 := by
  cases w with
  | scalar r => cases r <;> rfl
  | bin t k => cases t <;> simp [Dyn.get, Dyn.binArray, Dyn.reset]
  | osc t m => cases t <;> simp [Dyn.get, Dyn.oscElem, Dyn.reset, bitWord]
  | zone z => simp [Dyn.get, Dyn.reset]
  | nov j => simp [Dyn.get, Dyn.reset]
  | hist i => simp [Dyn.get, Dyn.reset]
  | stage i => simp [Dyn.get, Dyn.reset]

/-- Clearing shows in the working-state words and in the counts and cursors of the dynamic state only. -/
theorem State.cleared_word (s : State) {x : Slot} (hwork : ∀ w, x ≠ .work w)
    (hx : x ∉ [Slot.stageCount, .histWptr, .histFill, .novWptr, .elapsedPend, .status, .lastCycles]) :
    s.cleared.word x = s.word x := by
  cases x with
  | work w => exact absurd rfl (hwork w)
  | stageCount | histWptr | histFill | novWptr | elapsedPend | status | lastCycles => exact absurd (by decide) hx
  | _ => rfl

/-- Settles O50: the clearing and the completion each show in their own words only. -/
theorem clearStateZeroesTheDynamicState : Obligations.ClearStateZeroesTheDynamicState := by
  intro s
  refine ⟨s.cleared.complete, rfl, ⟨rfl, rfl, rfl, rfl, rfl⟩, Dyn.reset_get, rfl, rfl, rfl, rfl, rfl,
    fun x hwork hx => ?_, rfl, rfl⟩
  have hcompletion : completionSlot x = false := by
    cases x with
    | status | lastCycles => exact absurd (by decide) hx
    | _ => rfl
  rw [State.complete_sameWords _ x hcompletion]
  exact s.cleared_word hwork hx

/-! ## SOFT_RESET (R124) -/

/-- No word shows the model's own fields, which alone a soft reset leaves. -/
theorem State.softReset_word (s : State) (x : Slot) : s.softReset.word x = State.reset.word x := by
  cases x <;> rfl

/-- Settles O51: the completion of a reset state. -/
theorem softResetIsPowerOnPlusDone : Obligations.SoftResetIsPowerOnPlusDone := by
  intro s
  have hirq : ({ State.reset with done := true } : State).irq = false := by decide
  have hstatus : ({ State.reset with done := true } : State).statusWord = 0x00000002#32 := by decide
  refine ⟨s.softReset.complete, rfl, hstatus, rfl, hirq, fun x hx => ?_, rfl⟩
  rw [State.complete_sameWords _ x hx, State.softReset_word]

end Sys2Proof.Machine
end

section
/-! WR_CTRL (40_sequencer.md R127): a write while enabled, a write of the mode bits and the two outcomes of an enable
attempt, each by the registers it changes. -/

namespace Sys2Proof.Machine

section
variable {s : State} (v : Word)

/-! ## The value written into CTRL (10_state.md R29) -/

theorem State.modeBits_of_ctrl {m : BitVec 4} {b : Bool} (h : s.ctrl = ctrlOf m b) : s.modeBits = m := by
  rw [State.modeBits, h, ctrlOf_mode]

theorem State.enabled_of_ctrl {m : BitVec 4} {b : Bool} (h : s.ctrl = ctrlOf m b) : s.enabled = b := by
  rw [State.enabled, h, ctrlOf_enable]

/-! ## Enabled -/

/-- A change of the mode bits raises CFG_LOCKED and leaves them. -/
def State.modeChecked (s : State) (v : Word) : State := if modeField v ≠ s.modeBits then s.raiseErr .cfgLocked else s

theorem State.modeChecked_ctrl (s : State) : (s.modeChecked v).ctrl = s.ctrl := by
  unfold State.modeChecked
  split <;> rfl

theorem State.modeChecked_err (s : State) :
    (s.modeChecked v).err = if modeField v ≠ s.modeBits then s.err ||| 0x020#11 else s.err := by
  unfold State.modeChecked
  split <;> rfl

theorem State.modeChecked_lastCode (s : State) :
    (s.modeChecked v).lastCode = if modeField v ≠ s.modeBits then 6#5 else s.lastCode := by
  unfold State.modeChecked
  split <;> rfl

theorem State.modeChecked_frame (s : State) :
    s.modeChecked v = { s with err := (s.modeChecked v).err, lastCode := (s.modeChecked v).lastCode } := by
  unfold State.modeChecked
  split <;> rfl

/-- Beside it only ENABLE can change. -/
theorem State.writeCtrlEnabled_eq (hen : s.enabled = true) :
    ∃ ctrl, s.writeCtrlEnabled v = { s.modeChecked v with ctrl := ctrl } ∧
      ({ s with ctrl := ctrl } : State).modeBits = s.modeBits ∧ ({ s with ctrl := ctrl } : State).enabled = v.getLsbD 0 := by
  have hmode : (s.modeChecked v).modeBits = s.modeBits := by
    rw [State.modeBits, State.modeChecked_ctrl, State.modeBits]
  cases hbit : v.getLsbD 0 with
  | true => exact ⟨(s.modeChecked v).ctrl, if_pos hbit, hmode, by rw [← hen, State.modeChecked_ctrl]⟩
  | false =>
    refine ⟨ctrlOf (s.modeChecked v).modeBits false, if_neg (ne_true_of_eq_false hbit), ?_, ctrlOf_enable _ _⟩
    exact (ctrlOf_mode _ _).trans hmode

/-! ## Disabled -/

theorem State.writeCtrlDisabled_mode (h : v.getLsbD 0 = false) :
    s.writeCtrlDisabled v = { s with ctrl := ctrlOf (modeField v) false } :=
  if_neg (ne_true_of_eq_false h)

/-- The enable attempt over the mode bits just written passes the check. -/
theorem State.writeCtrlDisabled_success (hbit : v.getLsbD 0 = true) (h : s.cfg.validate = none) :
    s.writeCtrlDisabled v =
      { s.cleared with cfgFailAddr := 0xFFFFFFFF#32, ctrl := ctrlOf (modeField v) true } := by
  have hmode : ({ s with ctrl := ctrlOf (modeField v) false } : State).modeBits = modeField v := ctrlOf_mode _ _
  simp only [State.writeCtrlDisabled, if_pos hbit, State.tryEnable, h, hmode]
  rfl

/-- The enable attempt fails at the word `w`. -/
theorem State.writeCtrlDisabled_failure {w : CfgWord} (hbit : v.getLsbD 0 = true) (h : s.cfg.validate = some w) :
    s.writeCtrlDisabled v =
      { s with ctrl := ctrlOf (modeField v) false, cfgFailAddr := natWord w.offset }.raiseErr .cfgInvalid := by
  simp only [State.writeCtrlDisabled, if_pos hbit, State.tryEnable, h]

theorem natWord_offset_toNat (w : CfgWord) : (natWord w.offset).toNat = w.offset := by
  have hle : w.offset ≤ 0xA1FC := Slot.offset_le (.cfg w)
  exact Nat.mod_eq_of_lt (by omega)

/-! ## The instruction -/

theorem execWrCtrl_busy (h : s.busy = true) : exec (.wrCtrl v) s = .next (s.raiseErr .busyWrite) := by
  simp only [exec, execWrCtrl, if_pos h]

theorem execWrCtrl_enabled (hidle : s.busy = false) (hen : s.enabled = true) :
    exec (.wrCtrl v) s = .next (s.writeCtrlEnabled v) := by
  simp [exec, execWrCtrl, hidle, hen]

theorem execWrCtrl_disabled (hidle : s.busy = false) (hoff : s.enabled = false) :
    exec (.wrCtrl v) s = .next (s.writeCtrlDisabled v) := by
  simp [exec, execWrCtrl, hidle, hoff]

end

/-- Settles O15: the five clauses are the five ways the write can go, told apart by BUSY, ENABLE, bit 0 and the check. -/
theorem controlWrite : Obligations.ControlWrite := by
  intro v s
  obtain hbusy | hidle := s.busy.eq_false_or_eq_true
  · exact ⟨_, execWrCtrl_busy v hbusy, fun _ => rfl, by simp [hbusy], by simp [hbusy], by simp [hbusy], by simp [hbusy]⟩
  obtain hen | hoff := s.enabled.eq_false_or_eq_true
  · obtain ⟨ctrl, heq, hmode, hbit⟩ := State.writeCtrlEnabled_eq v hen
    refine ⟨_, execWrCtrl_enabled v hidle hen, by simp [hidle], fun _ _ => ?_, by simp [hen], by simp [hen], by simp [hen]⟩
    rw [heq]
    refine ⟨hmode, hbit, s.modeChecked_err v, s.modeChecked_lastCode v, ?_⟩
    exact congrArg (fun t : State => { t with ctrl := ctrl }) (s.modeChecked_frame v)
  refine ⟨_, execWrCtrl_disabled v hidle hoff, by simp [hidle], by simp [hoff], fun _ _ hbit => ?_,
    fun _ _ hbit hvalid => ?_, fun w _ _ hbit hvalid => ?_⟩
  · rw [State.writeCtrlDisabled_mode v hbit]
    exact ⟨State.modeBits_of_ctrl rfl, State.enabled_of_ctrl rfl, rfl⟩
  · rw [State.writeCtrlDisabled_success v hbit hvalid]
    exact ⟨State.modeBits_of_ctrl rfl, State.enabled_of_ctrl rfl, rfl, Dyn.reset_get, rfl, rfl, rfl, rfl, rfl, rfl⟩
  · rw [State.writeCtrlDisabled_failure v hbit hvalid]
    exact ⟨State.modeBits_of_ctrl rfl, State.enabled_of_ctrl rfl, natWord_offset_toNat w, rfl, rfl, rfl⟩

end Sys2Proof.Machine
end

section
/-! Sample capture and the history (41_capture.md): what staging one sample does, the two sample ports, and where the loop
of PUSH_CHUNK writes. -/

namespace Sys2Proof.Machine

/-! ## Staging one sample (R135) -/

section
variable {s : State} (h : BitVec 16)

/-- With room in the buffer the sample becomes the next staged element, and only the buffer and its count change. -/
theorem State.stageOne_room (hroom : s.dyn.stageCount.val < 128) :
    (s.stageOne h).dyn.stageCount.val = s.dyn.stageCount.val + 1 ∧
    (∀ i : Fin 128, (s.stageOne h).dyn.stage[i] =
      if i.val = s.dyn.stageCount.val then sext16 h else s.dyn.stage[i]) ∧
    s.stageOne h = { s with dyn := { s.dyn with stage := (s.stageOne h).dyn.stage
                                                stageCount := (s.stageOne h).dyn.stageCount } } := by
  unfold State.stageOne
  rw [dif_pos hroom]
  refine ⟨rfl, fun i => ?_, rfl⟩
  simp only [Fin.getElem_fin, Vector.getElem_set, eq_comm]

theorem State.stageOne_full (hfull : s.dyn.stageCount.val = 128) : s.stageOne h = s.raiseErr .stageOverflow := by
  unfold State.stageOne
  exact dif_neg (by omega)

end

theorem State.raiseErr_raiseErr (s : State) (e : Err) : (s.raiseErr e).raiseErr e = s.raiseErr e := by
  simp [State.raiseErr, BitVec.or_assoc]

@[simp] theorem State.stageOne_enabled (s : State) (h : BitVec 16) : (s.stageOne h).enabled = s.enabled :=
  congrArg (·.getLsbD 0) (s.stageOne_ctrl h)

/-! ## The sample ports (R135, R136) -/

/-- The high half of a pair is the sample a write of the shifted word stages (30_encoding.md R114). -/
theorem lowSample_shift (v : Word) : lowSample (v >>> 16) = highSample v := by
  apply BitVec.eq_of_getLsbD_eq
  intro i hi
  simp [lowSample, highSample, hi]

section
variable {s : State} (v : Word)

theorem execWrSampleIn_busy (hbusy : s.busy = true) : exec (.wrSampleIn v) s = .next (s.raiseErr .busyWrite) := by
  simp [exec, execWrSampleIn, hbusy]

theorem execWrSampleIn_disabled (hidle : s.busy = false) (hoff : s.enabled = false) :
    exec (.wrSampleIn v) s = .next (s.raiseErr .notEnabled) := by
  simp [exec, execWrSampleIn, hidle, hoff]

theorem execWrSampleIn_enabled (hidle : s.busy = false) (hen : s.enabled = true) :
    exec (.wrSampleIn v) s = .next (s.stageOne (lowSample v)) := by
  simp [exec, execWrSampleIn, hidle, hen]

theorem execWrSamplePair_busy (hbusy : s.busy = true) : exec (.wrSamplePair v) s = .next (s.raiseErr .busyWrite) := by
  simp [exec, execWrSamplePair, hbusy]

theorem execWrSamplePair_disabled (hidle : s.busy = false) (hoff : s.enabled = false) :
    exec (.wrSamplePair v) s = .next (s.raiseErr .notEnabled) := by
  simp [exec, execWrSamplePair, hidle, hoff]

theorem execWrSamplePair_enabled (hidle : s.busy = false) (hen : s.enabled = true) :
    exec (.wrSamplePair v) s = .next ((s.stageOne (lowSample v)).stageOne (highSample v)) := by
  simp [exec, execWrSamplePair, hidle, hen]

end

/-- Settles O25: the four ways the write can go are told apart by BUSY, ENABLE and STAGE_COUNT. -/
theorem sampleWrite : Obligations.SampleWrite := by
  intro v s
  obtain hbusy | hidle := s.busy.eq_false_or_eq_true
  · exact ⟨_, execWrSampleIn_busy v hbusy, fun _ => rfl, by simp [hbusy], by simp [hbusy], by simp [hbusy]⟩
  obtain hen | hoff := s.enabled.eq_false_or_eq_true
  · refine ⟨_, execWrSampleIn_enabled v hidle hen, by simp [hidle], by simp [hen],
      fun _ _ hfull => State.stageOne_full _ hfull, fun _ _ hroom => ?_⟩
    obtain ⟨hcount, hstage, hframe⟩ := State.stageOne_room (lowSample v) hroom
    refine ⟨hcount, hstage, ?_, hframe⟩
    rw [State.stageFull, hcount, Bool.eq_iff_iff, beq_iff_eq, decide_eq_true_iff]
    omega
  · exact ⟨_, execWrSampleIn_disabled v hidle hoff, by simp [hidle], fun _ _ => rfl, by simp [hoff], by simp [hoff]⟩

/-- Settles O26: the first write leaves BUSY and ENABLE as they are, so the second stages too. -/
theorem samplePairIsTwoSamples : Obligations.SamplePairIsTwoSamples := by
  intro v s
  refine ⟨execWrSamplePair_busy v, execWrSamplePair_disabled v, fun hidle hen => ?_⟩
  have hsecond : exec (.wrSampleIn (v >>> 16)) (s.stageOne (lowSample v)) =
      .next ((s.stageOne (lowSample v)).stageOne (highSample v)) := by
    rw [execWrSampleIn_enabled _ (by rw [State.stageOne_busy, hidle]) (by rw [State.stageOne_enabled, hen]),
      lowSample_shift]
  refine ⟨_, _, execWrSampleIn_enabled v hidle hen, hsecond, execWrSamplePair_enabled v hidle hen,
    fun hlast => ?_, fun hfull => ?_⟩
  · obtain ⟨hcount, hstage, -⟩ := State.stageOne_room (lowSample v) (s := s) (by omega)
    rw [hlast] at hcount
    rw [State.stageOne_full _ hcount]
    exact ⟨hcount, rfl, (hstage 127).trans (if_pos hlast.symm)⟩
  · rw [State.stageOne_full (s := s) _ hfull]
    exact (State.stageOne_full (s := s.raiseErr .stageOverflow) _ hfull).trans (s.raiseErr_raiseErr _)

/-! ## Where the loop of PUSH_CHUNK writes (R138) -/

theorem State.pushSample_histWptr (s : State) (k : Fin 128) :
    (s.pushSample k).dyn.histWptr.val = (s.dyn.histWptr.val + 1) % 2048 :=
  (State.pushSamples_frame [k] s).1

/-- The rounds leave every entry that none of them reaches from the cursor. -/
theorem State.pushSamples_hist_unwritten (l : List (Fin 128)) (s : State) (j : Fin 2048)
    (hj : ∀ n < l.length, j.val ≠ (s.dyn.histWptr.val + n) % 2048) :
    (l.foldl State.pushSample s).dyn.hist[j] = s.dyn.hist[j] := by
  induction l generalizing s with
  | nil => rfl
  | cons k l ih =>
    have hrest : ∀ n < l.length, j.val ≠ ((s.pushSample k).dyn.histWptr.val + n) % 2048 := by
      intro n hn
      have := hj (n + 1) (by simpa using hn)
      rw [State.pushSample_histWptr]
      omega
    have hfirst : s.dyn.histWptr.val ≠ j.val := by
      have := hj 0 (by simp)
      omega
    rw [List.foldl_cons, ih (s.pushSample k) hrest]
    exact Vector.getElem_set_ne s.dyn.histWptr.isLt j.isLt hfirst

/-- Round `n` writes the value of its sample `n` entries past the cursor, and no later round reaches that entry. -/
theorem State.pushSamples_hist_written (l : List (Fin 128)) (s : State) (hl : l.length ≤ 2048) {n : Nat} {i : Fin 128}
    (hi : l[n]? = some i) (j : Fin 2048) (hj : j.val = (s.dyn.histWptr.val + n) % 2048) :
    (l.foldl State.pushSample s).dyn.hist[j] =
      (histValue (val s.dcOffset) (sampleOf s.dyn.stage[i])).toHistBits (s.draws + n) := by
  induction l generalizing s n with
  | nil => cases hi
  | cons k l ih =>
    rw [List.length_cons] at hl
    rw [List.foldl_cons]
    cases n with
    | zero =>
      obtain rfl : k = i := Option.some.inj hi
      have hcursor : s.dyn.histWptr.val = j.val := by omega
      rw [State.pushSamples_hist_unwritten l (s.pushSample k) j
        (fun m hm => by rw [State.pushSample_histWptr]; omega)]
      simp [State.pushSample, hcursor]
    | succ n =>
      have hdraws : (s.pushSample k).draws + n = s.draws + (n + 1) := Nat.add_right_comm s.draws 1 n
      rw [ih (s.pushSample k) (by omega) hi (by rw [State.pushSample_histWptr]; omega), hdraws]
      rfl

theorem State.pushChunk_hist_new (s : State) (i : Fin 128) (j : Fin 2048)
    (hj : j.val = (s.dyn.histWptr.val + i.val) % 2048) :
    s.pushChunk.dyn.hist[j] =
      (histValue (val s.dcOffset) (sampleOf s.dyn.stage[i])).toHistBits (s.draws + i.val) :=
  State.pushSamples_hist_written (List.finRange 128) s (by simp) (by simp) j hj

theorem State.pushChunk_hist_old (s : State) (j : Fin 2048)
    (hj : ∀ i : Fin 128, j.val ≠ (s.dyn.histWptr.val + i.val) % 2048) :
    s.pushChunk.dyn.hist[j] = s.dyn.hist[j] :=
  State.pushSamples_hist_unwritten _ s j fun n hn => hj ⟨n, by simpa using hn⟩

/-- PUSH_CHUNK changes the two buffers, their counts and cursor, and the count of drawn values only. -/
theorem State.pushChunk_frame (s : State) :
    s.pushChunk = { s with
      draws := s.pushChunk.draws
      dyn := { s.dyn with stage := s.pushChunk.dyn.stage, stageCount := s.pushChunk.dyn.stageCount
                          hist := s.pushChunk.dyn.hist, histWptr := s.pushChunk.dyn.histWptr
                          histFill := s.pushChunk.dyn.histFill } } := by
  unfold State.pushChunk
  rw [(State.pushSamples_frame _ s).2.2]
  rfl

/-! ## PUSH_CHUNK (R137 to R139) -/

section
variable {s : State}

theorem execPushChunk_full (hfull : s.dyn.stageCount.val = 128) : exec .pushChunk s = .next s.pushChunk.complete := by
  simp only [exec, execPushChunk, if_pos hfull]

theorem execPushChunk_partial (hpart : s.dyn.stageCount.val ≠ 128) :
    exec .pushChunk s = .next (s.raiseErr .stageUnderrun).complete := by
  simp only [exec, execPushChunk, if_neg hpart]

end

/-- Settles O27: a whole chunk or an underrun, by STAGE_COUNT. -/
theorem pushChunkMovesTheChunk : Obligations.PushChunkMovesTheChunk := by
  intro s
  by_cases hfull : s.dyn.stageCount.val = 128
  · obtain ⟨hstage, hwptr, hfill, -⟩ := s.pushChunk_buffers
    refine ⟨_, execPushChunk_full hfull, by simp [completed],
      (absurd hfull ·), fun _ => ⟨fun j i hj => ⟨_, s.pushChunk_hist_new i j hj⟩, s.pushChunk_hist_old, hwptr, hfill,
        fun i => ?_, rfl, ?_⟩⟩
    · simp [hstage]
    · have hframe := s.pushChunk_frame
      generalize s.pushChunk = u at hframe ⊢
      exact congrArg State.complete hframe
  · exact ⟨_, execPushChunk_partial hfull, ⟨rfl, rfl, rfl, rfl, rfl⟩, fun _ => rfl, (absurd · hfull)⟩

/-- Settles O28: counted back from the new cursor, the 128 most recent entries are the ones written and the others keep
their order. -/
theorem historyOrder : Obligations.HistoryOrder := by
  intro s t hfull hexec
  obtain rfl : s.pushChunk.complete = t := by
    simpa only [execPushChunk_full hfull, Host.Outcome.next.injEq] using hexec
  obtain ⟨-, hwptr, -, -⟩ := s.pushChunk_buffers
  simp only [State.complete_dyn, hwptr]
  refine ⟨fun j a i hpos hle ha hi => ⟨_, s.pushChunk_hist_new i a (by omega)⟩, fun j a b hlt hle ha hb => ?_⟩
  obtain rfl : a = b := Fin.ext (by omega)
  exact s.pushChunk_hist_old a fun i => by omega

end Sys2Proof.Machine
end

section
/-! What RUN_GOERTZEL leaves in each word it writes (42_goertzel.md R141 to R149), and which words it leaves alone. -/

namespace Sys2Proof.Machine

/-! ## The recurrence (R142) -/

/-- A sequence that follows the recurrence is what the filter runs through: after `n` rounds (s1, s2) are its elements
`n + 1` and `n`. -/
theorem foldl_filterStep_eq {coeff : F32} {u x : Nat → F32} (n : Nat)
    (h : ∀ i < n, x (i + 2) = ((u i).add (coeff.mul (x (i + 1)))).sub (x i)) :
    ((List.range n).map u).foldl (filterStep coeff) (x 1, x 0) = (x (n + 1), x n) := by
  induction n with
  | zero => rfl
  | succ n ih =>
    have hrun := ih fun i hi => h i (hi.trans n.lt_succ_self)
    rw [List.range_succ, List.map_append, List.foldl_append, hrun]
    exact Prod.ext (h n n.lt_succ_self).symm rfl

theorem windowSample_eq {d : Dyn} {n i : Nat} {h : Fin 2048}
    (hh : h.val = (((d.histWptr.val : Int) - n + i) % 2048).toNat) : windowSample d n i = val d.hist[h] := by
  simp [windowSample, hh]

/-- The index of a weight is in the table, so its reduction does nothing. -/
theorem windowWeight_eq {c : Cfg} {n i : Nat} {w : Fin 4096} (hw : w.val = i * 4096 / n) :
    windowWeight c n i = val c.winLut[w] := by
  simp [windowWeight, ← hw, Nat.mod_eq_of_lt w.isLt]

/-- Settles O29: the filter runs through the sequence, and its last two elements give the power. -/
theorem rawMagnitudeFollowsTheRecurrence : Obligations.RawMagnitudeFollowsTheRecurrence := by
  intro c d k x h w n C S hh hw hx0 hx1 hx
  have hrounds : ∀ i < n, x (i + 2) =
      (((windowSample d n i).mul (windowWeight c n i)).add ((F32.two.mul C).mul (x (i + 1)))).sub (x i) :=
    fun i hi => by rw [hx i hi, windowSample_eq (hh i hi), windowWeight_eq (hw i hi)]
  have hrun := foldl_filterStep_eq n hrounds
  rw [hx0, hx1] at hrun
  show ((filterPower C S (windowed c d n)).sqrt.mul F32.two).div (F32.ofInt n) = _
  rw [filterPower, windowed, hrun]

/-! ## Lanes (R143, R144, R148) -/

/-- A bin is clamped unless its raw and its gain-compensated magnitude are both finite. -/
theorem binLane_clamped (c : Cfg) (d : Dyn) (k : Fin 64) :
    (binLane c d k).clamped = !((binRaw c d k).finite && ((binRaw c d k).mul (val c.binGain[k])).finite) := by
  simp only [binLane]
  split
  next hgood => rw [hgood]; rfl
  next hbad => rw [Bool.eq_false_of_not_eq_true hbad]; rfl

theorem binLane_g (c : Cfg) (d : Dyn) (k : Fin 64) :
    (binLane c d k).g =
      if (binRaw c d k).finite && ((binRaw c d k).mul (val c.binGain[k])).finite then (binRaw c d k).mul (val c.binGain[k])
      else F32.zero := by
  simp only [binLane]
  split <;> rfl

/-- A lane reads the history, its cursor, the window table and its own bin's configuration. -/
theorem binLane_congr {c c' : Cfg} {d d' : Dyn} {k : Fin 64} (hhist : d.hist = d'.hist)
    (hwptr : d.histWptr = d'.histWptr) (hwin : c.winLut = c'.winLut) (hcos : c.binCos[k] = c'.binCos[k])
    (hsin : c.binSin[k] = c'.binSin[k]) (hn : c.binN[k] = c'.binN[k]) (hgain : c.binGain[k] = c'.binGain[k]) :
    binLane c d k = binLane c' d' k := by
  have hwindow (n : Nat) : windowed c d n = windowed c' d' n := by
    simp only [windowed, windowSample, windowWeight, hhist, hwptr, hwin]
  have hraw : binRaw c d k = binRaw c' d' k := by simp only [binRaw, hwindow, hcos, hsin, hn]
  unfold binLane
  rw [hraw, hgain]

theorem State.binLanes_getElem (s : State) (k : Fin 64) : s.binLanes[k] = binLane s.cfg s.dyn k := getElem_ofFn _ k

theorem State.clampedCount_binLanes (s : State) :
    clampedCount s.binLanes = (List.finRange 64).countP fun k => (binLane s.cfg s.dyn k).clamped := by
  simp only [clampedCount, State.binLanes_getElem]

/-! ## The words each step writes, in the state RUN_GOERTZEL leaves -/

theorem maskWord_getElem (f : Fin 32 → Bool) {j : Nat} (hj : j < 32) : (maskWord f)[j] = f ⟨j, hj⟩ := by
  simp [maskWord]

section
variable (s : State)

theorem State.storeLanes_wNfMask0 (l : Vector BinLane 64) (k : Fin 64) (hk : k.val < 32) :
    (s.storeLanes l).dyn.wNfMask0.getLsbD k.val = l[k].clamped := by
  simp [State.storeLanes, maskWord_getElem, hk]

theorem State.storeLanes_wNfMask1 (l : Vector BinLane 64) (k : Fin 64) (hk : 32 ≤ k.val) :
    (s.storeLanes l).dyn.wNfMask1.getLsbD (k.val - 32) = l[k].clamped := by
  have hlt : k.val - 32 < 32 := by omega
  simp [State.storeLanes, maskWord_getElem, hlt, Nat.sub_add_cancel hk]

theorem State.goertzel_wNfMask0 (k : Fin 64) (hk : k.val < 32) :
    s.goertzel.dyn.wNfMask0.getLsbD k.val = (binLane s.cfg s.dyn k).clamped := by
  rw [State.goertzel, State.smooth_dyn, State.normalise_dyn, State.storeLanes_wNfMask0 _ _ k hk, State.binLanes_getElem]

theorem State.goertzel_wNfMask1 (k : Fin 64) (hk : 32 ≤ k.val) :
    s.goertzel.dyn.wNfMask1.getLsbD (k.val - 32) = (binLane s.cfg s.dyn k).clamped := by
  rw [State.goertzel, State.smooth_dyn, State.normalise_dyn, State.storeLanes_wNfMask1 _ _ k hk, State.binLanes_getElem]

theorem State.storeLanes_agcEn (l : Vector BinLane 64) : (s.storeLanes l).agcEn = s.agcEn :=
  congrArg (·.getLsbD 1) (s.storeLanes_ctrl l)

theorem State.storeLanes_zoneLevel (l : Vector BinLane 64) : (s.storeLanes l).dyn.zoneLevel = s.dyn.zoneLevel := by
  rw [State.storeLanes_dyn]

/-- Of the dynamic state the normalisation reads the zone levels only. -/
theorem magnitudeAgc_congr {d e : Dyn} (c : Cfg) (l : Vector BinLane 64) (h : e.zoneLevel = d.zoneLevel) :
    zoneLevelNext c e l = zoneLevelNext c d l ∧ magnitudeAgc c e l = magnitudeAgc c d l := by
  have hlevel : zoneLevelNext c e l = zoneLevelNext c d l := funext fun z => by simp only [zoneLevelNext, h]
  exact ⟨hlevel, funext fun k => by simp only [magnitudeAgc, hlevel]⟩

theorem State.normalise_agcOff (l : Vector BinLane 64) (hagc : s.agcEn = false) :
    (s.normalise l).dyn.zoneLevel = s.dyn.zoneLevel ∧
      ∀ k : Fin 64, (s.normalise l).dyn.wMag[k] = (magnitudeClamp l k).toBits := by
  rw [State.normalise, if_neg (ne_true_of_eq_false hagc)]
  exact ⟨rfl, getElem_ofFn _⟩

theorem State.normalise_agcOn (l : Vector BinLane 64) (hagc : s.agcEn = true) :
    (∀ z : Fin 4, (s.normalise l).dyn.zoneLevel[z] = (zoneLevelNext s.cfg s.dyn l z).toBits) ∧
      ∀ k : Fin 64, (s.normalise l).dyn.wMag[k] = (magnitudeAgc s.cfg s.dyn l k).toBits := by
  rw [State.normalise, if_pos hagc]
  exact ⟨getElem_ofFn _, getElem_ofFn _⟩

theorem State.smooth_magnitudes : s.smooth.dyn.zoneLevel = s.dyn.zoneLevel ∧ s.smooth.dyn.wMag = s.dyn.wMag := by
  rw [State.smooth_dyn]
  exact ⟨rfl, rfl⟩

theorem State.goertzel_agcOff (hagc : s.agcEn = false) :
    s.goertzel.dyn.zoneLevel = s.dyn.zoneLevel ∧
      ∀ k : Fin 64, s.goertzel.dyn.wMag[k] = (magnitudeClamp s.binLanes k).toBits := by
  obtain ⟨hzones, hmags⟩ := State.smooth_magnitudes ((s.storeLanes s.binLanes).normalise s.binLanes)
  rw [State.goertzel, hzones, hmags, ← State.storeLanes_zoneLevel s s.binLanes]
  exact State.normalise_agcOff _ _ ((s.storeLanes_agcEn _).trans hagc)

theorem State.goertzel_agcOn (hagc : s.agcEn = true) :
    (∀ z : Fin 4, s.goertzel.dyn.zoneLevel[z] = (zoneLevelNext s.cfg s.dyn s.binLanes z).toBits) ∧
      ∀ k : Fin 64, s.goertzel.dyn.wMag[k] = (magnitudeAgc s.cfg s.dyn s.binLanes k).toBits := by
  obtain ⟨hlevel, hmag⟩ := magnitudeAgc_congr s.cfg s.binLanes (s.storeLanes_zoneLevel s.binLanes)
  obtain ⟨hzones, hmags⟩ := State.smooth_magnitudes ((s.storeLanes s.binLanes).normalise s.binLanes)
  rw [State.goertzel, hzones, hmags, ← hlevel, ← hmag, ← State.storeLanes_cfg s s.binLanes]
  exact State.normalise_agcOn _ _ ((s.storeLanes_agcEn _).trans hagc)

theorem State.goertzel_wFast (k : Fin 64) :
    s.goertzel.dyn.wFast[k] = (smoothStep (val s.cfg.fastAttack) (val s.cfg.fastRelease)
      (val s.goertzel.dyn.wMag[k]) (val s.dyn.wFast[k])).toBits := by
  rw [State.goertzel, State.smooth, getElem_ofFn, State.normalise_cfg, State.storeLanes_cfg, State.normalise_dyn,
    State.storeLanes_dyn]

theorem State.goertzel_wSlow (k : Fin 64) :
    s.goertzel.dyn.wSlow[k] = (smoothStep (val s.cfg.slowAttack) (val s.cfg.slowRelease)
      (val s.goertzel.dyn.wMag[k]) (val s.dyn.wSlow[k])).toBits := by
  rw [State.goertzel, State.smooth, getElem_ofFn, State.normalise_cfg, State.storeLanes_cfg, State.normalise_dyn,
    State.storeLanes_dyn]

/-! ## Faults and frame (R144, R149) -/

theorem State.goertzel_numErrCount_toNat :
    s.goertzel.numErrCount.toNat = min (s.numErrCount.toNat + clampedCount s.binLanes) 0xFFFFFFFF := by
  rw [State.goertzel, State.smooth_numErrCount, State.normalise_numErrCount]
  exact State.numfaults_numErrCount_toNat _ _

theorem State.goertzel_err :
    s.goertzel.err = if clampedCount s.binLanes = 0 then s.err else s.err ||| Err.numeric.mask := by
  rw [State.goertzel, State.smooth_err, State.normalise_err]
  exact State.numfaults_err _ _

theorem State.goertzel_lastCode :
    s.goertzel.lastCode = if clampedCount s.binLanes = 0 then s.lastCode else Err.numeric.code := by
  rw [State.goertzel, State.smooth_lastCode, State.normalise_lastCode]
  exact State.numfaults_lastCode _ _

/-- Numeric faults write ERR, LAST_CODE and their count only. -/
theorem State.numfaults_frame (n : Nat) :
    s.numfaults n = { s with
      err := (s.numfaults n).err, lastCode := (s.numfaults n).lastCode, numErrCount := (s.numfaults n).numErrCount } := by
  induction n generalizing s with
  | zero => rfl
  | succ n ih => exact ih s.numfault

theorem State.storeLanes_frame (l : Vector BinLane 64) :
    s.storeLanes l = { s with
      err := (s.storeLanes l).err, lastCode := (s.storeLanes l).lastCode, numErrCount := (s.storeLanes l).numErrCount
      dyn := { s.dyn with wRaw := (s.storeLanes l).dyn.wRaw, wNfMask0 := (s.storeLanes l).dyn.wNfMask0
                          wNfMask1 := (s.storeLanes l).dyn.wNfMask1 } } := by
  rw [← State.storeLanes_dyn]
  unfold State.storeLanes
  rw [State.numfaults_dyn]
  exact State.numfaults_frame _ _

theorem State.normalise_frame (l : Vector BinLane 64) : s.normalise l = { s with dyn := (s.normalise l).dyn } := by
  unfold State.normalise
  split <;> rfl

theorem State.goertzel_dyn :
    s.goertzel.dyn = { s.dyn with
      wRaw := s.goertzel.dyn.wRaw, wMag := s.goertzel.dyn.wMag, wFast := s.goertzel.dyn.wFast
      wSlow := s.goertzel.dyn.wSlow, zoneLevel := s.goertzel.dyn.zoneLevel
      wNfMask0 := s.goertzel.dyn.wNfMask0, wNfMask1 := s.goertzel.dyn.wNfMask1 } := by
  rw [State.goertzel, State.smooth_dyn, State.normalise_dyn, State.storeLanes_dyn]

/-- Beside the dynamic state RUN_GOERTZEL writes what its faults write. -/
theorem State.goertzel_frame :
    s.goertzel = { s with
      err := s.goertzel.err, lastCode := s.goertzel.lastCode, numErrCount := s.goertzel.numErrCount
      dyn := s.goertzel.dyn } := by
  have hsmooth (u : State) : u.smooth = { u with dyn := u.smooth.dyn } := rfl
  rw [State.goertzel, hsmooth, State.normalise_frame, State.storeLanes_frame]

end

/-! ## The statements -/

/-- Settles O30: the words are the lanes', the faults as many as the clamped lanes, and the frame is that of the steps. -/
theorem goertzelStoresAndClampsLanes : Obligations.GoertzelStoresAndClampsLanes := by
  intro s
  refine ⟨s.goertzel.complete, rfl, by simp [completed], fun k => ⟨?_, fun hk => ?_, fun hk => ?_⟩, ?_, ?_⟩
  · exact (s.goertzel_wRaw k).trans (binLane_raw_toBits _ _ k)
  · exact (s.goertzel_wNfMask0 k hk).trans (binLane_clamped _ _ k)
  · exact (s.goertzel_wNfMask1 k hk).trans (binLane_clamped _ _ k)
  · rintro _ rfl
    simp only [← binLane_clamped, ← State.clampedCount_binLanes, State.complete_numErrCount, State.complete_err,
      State.complete_lastCode]
    exact ⟨s.goertzel_numErrCount_toNat, s.goertzel_err, s.goertzel_lastCode⟩
  · have hframe := s.goertzel_frame
    rw [State.complete_dyn, ← State.goertzel_dyn, State.complete_lastCycles, State.complete_draws, State.goertzel_draws]
    generalize s.goertzel = u at hframe ⊢
    exact congrArg State.complete hframe

/-- Settles O31: the statement's `g` is the lanes', and in a zone's clause the level is `zoneLevelNext`. -/
theorem goertzelNormalises : Obligations.GoertzelNormalises := by
  intro s
  refine ⟨s.goertzel.complete, rfl, fun g hg => ?_⟩
  obtain rfl : g = fun k => s.binLanes[k].g :=
    funext fun k => by rw [hg, State.binLanes_getElem, binLane_g]
  refine ⟨s.goertzel_agcOff, fun hagc z => ?_⟩
  obtain ⟨hlevel, hmag⟩ := s.goertzel_agcOn hagc
  refine ⟨zoneLevelNext s.cfg s.dyn s.binLanes z, ?_, hlevel z, fun k hk => ?_⟩
  · intro pk hpk
    have hpeak : pk = zonePeak s.binLanes z := by
      rw [hpk]
      rfl
    rw [hpeak, zoneLevelNext]
  · obtain rfl : zoneOf k = z := Fin.ext hk
    exact hmag k

/-- Settles O33: the two lanes of the bin are equal, and the words show the lane. -/
theorem binsAreIndependentLanes : Obligations.BinsAreIndependentLanes := by
  intro s s' t t' k hhist hwptr hwin hcos hsin hn hgain ht ht'
  have hlane : binLane s.cfg s.dyn k = binLane s'.cfg s'.dyn k := binLane_congr hhist hwptr hwin hcos hsin hn hgain
  cases ht
  cases ht'
  refine ⟨?_, fun hk => ?_, fun hk => ?_⟩ <;> simp only [State.complete_dyn]
  · rw [State.goertzel_wRaw, State.goertzel_wRaw, hlane]
  · rw [State.goertzel_wNfMask0 s k hk, State.goertzel_wNfMask0 s' k hk, hlane]
  · rw [State.goertzel_wNfMask1 s k hk, State.goertzel_wNfMask1 s' k hk, hlane]

/-- Settles O32: each path is `smoothStep` from the old energy toward the magnitude just stored. -/
theorem goertzelSmooths : Obligations.GoertzelSmooths := fun s =>
  ⟨s.goertzel.complete, rfl, fun k => ⟨s.goertzel_wFast k, s.goertzel_wSlow k⟩⟩

end Sys2Proof.Machine
end

section
/-! Silence (42_goertzel.md R150): from a history of +0 every value of the recurrence is a zero of one sign or the other, the
power is a sum of squares and so +0, and nothing after it leaves the zeros. -/

namespace Sys2Proof.Machine

/-! ## Zeros (00_scope.md R15) -/

/-- +0 or -0. -/
def F32.IsZero (x : F32) : Prop := ∃ s, x = .fin s 0

theorem F32.isZero_zero : F32.zero.IsZero := ⟨false, rfl⟩

section
variable {x y : F32}

theorem F32.IsZero.finite (hx : x.IsZero) : x.finite = true := by
  obtain ⟨s, rfl⟩ := hx
  rfl

theorem F32.IsZero.rank (hx : x.IsZero) : x.rank = 0 := by
  obtain ⟨s, rfl⟩ := hx
  exact signedUnits_zero s

theorem F32.IsZero.add (hx : x.IsZero) (hy : y.IsZero) : (x.add y).IsZero := by
  obtain ⟨s, rfl⟩ := hx
  obtain ⟨t, rfl⟩ := hy
  exact ⟨s && t, by simp [F32.add, F32.ofSum]⟩

theorem F32.IsZero.sub (hx : x.IsZero) (hy : y.IsZero) : (x.sub y).IsZero := by
  obtain ⟨t, rfl⟩ := hy
  exact hx.add ⟨!t, rfl⟩

/-- The sign of a zero product is the exclusive or of the signs. -/
theorem F32.zero_mul_fin (s t : Bool) (n : Nat) : (F32.fin s 0).mul (.fin t n) = .fin (s ^^ t) 0 := by
  simp only [F32.mul, Nat.zero_mul, roundRatio_zero]
  exact F32.ofMagnitude_of_lt _ (by positivity)

theorem F32.fin_mul_zero (s t : Bool) (n : Nat) : (F32.fin t n).mul (.fin s 0) = .fin (t ^^ s) 0 := by
  simp only [F32.mul, Nat.mul_zero, roundRatio_zero]
  exact F32.ofMagnitude_of_lt _ (by positivity)

theorem F32.IsZero.mul (hx : x.IsZero) (hy : y.finite = true) : (x.mul y).IsZero := by
  obtain ⟨s, rfl⟩ := hx
  obtain ⟨t, n, rfl⟩ := F32.exists_fin hy
  exact ⟨_, F32.zero_mul_fin s t n⟩

theorem F32.IsZero.mul_left (hx : x.IsZero) (hy : y.finite = true) : (y.mul x).IsZero := by
  obtain ⟨s, rfl⟩ := hx
  obtain ⟨t, n, rfl⟩ := F32.exists_fin hy
  exact ⟨_, F32.fin_mul_zero s t n⟩

/-- The square of a zero is +0. -/
theorem F32.IsZero.mul_self (hx : x.IsZero) : x.mul x = F32.zero := by
  obtain ⟨s, rfl⟩ := hx
  rw [F32.zero_mul_fin, Bool.xor_self]
  rfl

/-- A zero over a positive value keeps its sign. -/
theorem F32.zero_div_pos (s : Bool) (hy : 0 < y.rank) : (F32.fin s 0).div y = .fin s 0 := by
  cases y with
  | nan => exact absurd hy (lt_irrefl _)
  | inf t =>
    obtain rfl : t = false := (sign_of_signedUnits_nonneg hy.le).resolve_right (by positivity)
    simp only [F32.div, Bool.xor_false]
  | fin t n =>
    obtain ⟨n, hn, heq⟩ := F32.exists_pos_fin rfl hy
    cases heq
    simp only [F32.div, if_neg hn.ne', Nat.zero_mul, roundRatio_zero, Bool.xor_false]
    exact F32.ofMagnitude_of_lt _ (by positivity)

theorem F32.IsZero.div (hx : x.IsZero) (hy : 0 < y.rank) : (x.div y).IsZero := by
  obtain ⟨s, rfl⟩ := hx
  exact ⟨s, F32.zero_div_pos s hy⟩

/-- The clamp at 1.0 leaves a zero, and the two zeros have these patterns. -/
theorem F32.IsZero.fmin_one_toBits (hx : x.IsZero) :
    (F32.one.fmin x).toBits = 0#32 ∨ (F32.one.fmin x).toBits = 0x80000000#32 := by
  have hlt : x.lt F32.one = true :=
    F32.lt_iff.mpr ⟨F32.ordered_of_finite hx.finite, rfl, by rw [hx.rank]; decide⟩
  rw [F32.fmin, if_pos hlt]
  obtain ⟨s, rfl⟩ := hx
  cases s with
  | false => exact .inl rfl
  | true => exact .inr rfl

end

/-! ## The filter over zeros (R141, R142) -/

theorem windowed_isZero {c : Cfg} {d : Dyn} (hc : c.Checked) (hhist : ∀ i : Fin 2048, d.hist[i] = 0#32) (n : Nat) :
    ∀ u ∈ windowed c d n, u.IsZero := by
  intro u hu
  obtain ⟨i, -, rfl⟩ := List.mem_map.mp hu
  have hweight : (windowWeight c n i).finite = true := hc (.win ⟨i * 4096 / n % 4096, Nat.mod_lt _ (by decide)⟩)
  have hsample : windowSample d n i = F32.zero :=
    (congrArg val (hhist ⟨(((d.histWptr.val : Int) - n + i) % 2048).toNat, by omega⟩)).trans rfl
  rw [hsample]
  exact F32.isZero_zero.mul hweight

theorem filterStep_isZero {coeff u : F32} {st : F32 × F32} (hcoeff : coeff.finite = true) (hu : u.IsZero)
    (hst : st.1.IsZero ∧ st.2.IsZero) : (filterStep coeff st u).1.IsZero ∧ (filterStep coeff st u).2.IsZero :=
  ⟨(hu.add (hst.1.mul_left hcoeff)).sub hst.2, hst.1⟩

theorem filterPower_zero {cosine sine : F32} {us : List F32} (hcoeff : (F32.two.mul cosine).finite = true)
    (hcos : cosine.finite = true) (hsin : sine.finite = true) (hus : ∀ u ∈ us, u.IsZero) :
    filterPower cosine sine us = F32.zero := by
  have hrun := List.foldlRecOn (motive := fun st : F32 × F32 => st.1.IsZero ∧ st.2.IsZero) us
    (filterStep (F32.two.mul cosine)) (b := (F32.zero, F32.zero)) ⟨F32.isZero_zero, F32.isZero_zero⟩
    fun st hst u hu => filterStep_isZero hcoeff (hus u hu) hst
  obtain ⟨h1, h2⟩ := hrun
  rw [filterPower, (h1.sub (h2.mul hcos)).mul_self, (h2.mul hsin).mul_self]
  rfl

/-! ## A silent lane (R143, R144) -/

/-- A window holds at least one sample, so its length is a positive divisor. -/
theorem Cfg.Checked.binN_rank_pos {c : Cfg} (hc : c.Checked) (k : Fin 64) : 0 < (F32.ofInt c.binN[k].toNat).rank := by
  have hn : inCount 2048 c.binN[k] = true := hc (.bin .n k)
  simp only [inCount, Bool.and_eq_true, decide_eq_true_eq] at hn
  rw [F32.ofInt_rank (by omega)]
  omega

theorem binRaw_silent {c : Cfg} {d : Dyn} {k : Fin 64} (hc : c.Checked)
    (hcoeff : (F32.two.mul (val c.binCos[k])).finite = true) (hhist : ∀ i : Fin 2048, d.hist[i] = 0#32) :
    binRaw c d k = F32.zero := by
  have hpower := filterPower_zero hcoeff (hc (.bin .cos k)) (hc (.bin .sin k)) (windowed_isZero hc hhist c.binN[k].toNat)
  have htwo : F32.two = .fin false (2 ^ 150) := rfl
  have hroot : F32.zero.sqrt.mul F32.two = F32.zero := htwo ▸ F32.zero_mul_fin false false _
  simp only [binRaw, hpower, hroot]
  exact F32.zero_div_pos false (hc.binN_rank_pos k)

/-- A lane of silence: the raw magnitude is +0, the gain can only turn its sign, and nothing is clamped. -/
structure BinLane.Silent (l : BinLane) : Prop where
  raw : l.raw = F32.zero
  g : l.g.IsZero
  clamped : l.clamped = false

theorem binLane_silent {c : Cfg} {d : Dyn} {k : Fin 64} (hc : c.Checked)
    (hcoeff : (F32.two.mul (val c.binCos[k])).finite = true) (hhist : ∀ i : Fin 2048, d.hist[i] = 0#32) :
    (binLane c d k).Silent := by
  obtain ⟨hgain, -⟩ := isNonneg_iff.mp (hc (.bin .gain k))
  have hg : (F32.zero.mul (val c.binGain[k])).IsZero := F32.isZero_zero.mul hgain
  have hgood : (F32.zero.finite && (F32.zero.mul (val c.binGain[k])).finite) = true := hg.finite
  unfold binLane
  rw [binRaw_silent hc hcoeff hhist, if_pos hgood]
  exact ⟨rfl, hg, rfl⟩

/-- The divisor of the adaptive gain is positive, so it leaves a zero a zero. -/
theorem magnitudeAgc_silent {c : Cfg} {d : Dyn} {lanes : Vector BinLane 64} {k : Fin 64} (hc : c.Checked)
    (hlanes : ∀ k : Fin 64, lanes[k].Sound) (hlevel : ∀ z : Fin 4, isNonneg d.zoneLevel[z] = true)
    (hg : lanes[k].g.IsZero) :
    (magnitudeAgc c d lanes k).toBits = 0#32 ∨ (magnitudeAgc c d lanes k).toBits = 0x80000000#32 := by
  obtain ⟨-, hfinite, -⟩ := zoneLevelNext_nonneg hlanes hc (hlevel (zoneOf k))
  obtain ⟨hfloor, hpos⟩ := rank_pos_of_isPositive (hc (.scalar .agcFloor))
  exact (hg.div (F32.fmax_rank_pos (F32.ordered_of_finite hfinite) hfloor hpos)).fmin_one_toBits

/-- Settles O34: every lane is silent, so none is clamped, and neither normalisation makes a zero anything else. -/
theorem silenceGivesZeroMagnitudes : Obligations.SilenceGivesZeroMagnitudes := by
  intro s hvalid hcoeff hhist hlevel
  have hc : s.cfg.Checked := Cfg.check_of_validate hvalid
  have hsilent (k : Fin 64) : (binLane s.cfg s.dyn k).Silent := binLane_silent hc (hcoeff k) hhist
  have hg (k : Fin 64) : s.binLanes[k].g.IsZero := s.binLanes_getElem k ▸ (hsilent k).g
  have hcount : clampedCount s.binLanes = 0 := by
    rw [State.clampedCount_binLanes]
    exact List.countP_eq_zero.mpr fun k _ => ne_true_of_eq_false (hsilent k).clamped
  refine ⟨s.goertzel.complete, rfl, ?_, fun k => ?_⟩
  · have hmax : s.numErrCount.toNat ≤ 0xFFFFFFFF := Nat.le_of_lt_succ s.numErrCount.isLt
    apply BitVec.eq_of_toNat_eq
    rw [State.complete_numErrCount, State.goertzel_numErrCount_toNat, hcount, Nat.add_zero, Nat.min_eq_left hmax]
  · rw [State.complete_dyn, State.goertzel_wRaw, (hsilent k).raw]
    refine ⟨rfl, ?_⟩
    obtain hagc | hagc := s.agcEn.eq_false_or_eq_true
    · have hsound (k : Fin 64) : s.binLanes[k].Sound := s.binLanes_getElem k ▸ binLane_sound hc s.dyn k
      rw [(s.goertzel_agcOn hagc).2 k]
      exact magnitudeAgc_silent hc hsound (hlevel hagc) (hg k)
    · rw [(s.goertzel_agcOff hagc).2 k]
      exact (hg k).fmin_one_toBits

end Sys2Proof.Machine
end

section
/-! What RUN_ONSET leaves in each word it writes (43_onset.md R151 to R155), which words it leaves alone, and its faults
(R156). -/

namespace Sys2Proof.Machine

/-! ## The values RUN_ONSET stores -/

/-- The baseline it stores (R153). -/
def State.nextBaseline (s : State) : F32 := orZero (baselineMean s.cfg s.dyn)

/-- The novelty before its check (R154). -/
def State.rawNovelty (s : State) : F32 := (fluxOf s).div (noveltyDivisor s s.nextBaseline)

/-- The tempo input before its check (R154). -/
def State.rawXin (s : State) : F32 := ((fluxOf s).sub s.nextBaseline).div (noveltyDivisor s s.nextBaseline)

section
variable (s : State)

theorem State.onset_novHist : s.onset.dyn.novHist = (decayedHist s.cfg s.dyn).set s.dyn.novWptr (fluxOf s).toBits := by
  simp only [State.onset, State.numfaultIf_dyn]

theorem State.onset_wFlux : s.onset.dyn.wFlux = (fluxOf s).toBits := by
  simp only [State.onset, State.numfaultIf_dyn]

theorem State.onset_wBaseline : s.onset.dyn.wBaseline = s.nextBaseline.toBits := by
  simp only [State.onset, State.numfaultIf_dyn, State.nextBaseline]

theorem State.onset_wNovelty : s.onset.dyn.wNovelty = (orZero s.rawNovelty).toBits := by
  simp only [State.onset, State.numfaultIf_dyn, State.rawNovelty, State.nextBaseline]

theorem State.onset_wXin : s.onset.dyn.wXin = (orZero s.rawXin).toBits := by
  simp only [State.onset, State.numfaultIf_dyn, State.rawXin, State.nextBaseline]

theorem State.onset_wOnset : s.onset.dyn.wOnset = onsetTest s.cfg (fluxOf s) s.nextBaseline := by
  simp only [State.onset, State.numfaultIf_dyn, State.nextBaseline]

end

/-! ## The stored flux and baseline read back -/

theorem rep_fluxOf (s : State) : (fluxOf s).Rep := by
  unfold fluxOf
  split
  · exact F32.rep_ite (rep_orZero (F32.rep_ofBits _)) F32.rep_zero
  · split <;> exact F32.rep_div _ _

theorem State.val_onset_wFlux (s : State) : val s.onset.dyn.wFlux = fluxOf s :=
  val_toBits (rep_fluxOf s) s.onset_wFlux

theorem State.val_onset_wBaseline (s : State) : val s.onset.dyn.wBaseline = s.nextBaseline :=
  val_toBits (rep_orZero (F32.rep_div _ _)) s.onset_wBaseline

/-! ## The flux in its three modes (R151) -/

/-- A word is stored back as it was read, but that a value not above zero becomes +0. -/
theorem rectify_orZero_toBits (w : Word) :
    (rectify (orZero (val w))).toBits = if (val w).finite && (val w).gt F32.zero then w else 0#32 := by
  cases hfin : (val w).finite with
  | false => simp only [orZero, hfin]; rfl
  | true =>
    simp only [orZero, hfin, if_true, rectify, Bool.true_and]
    split
    · exact F32.toBits_ofBits (F32.ordered_of_finite hfin)
    · rfl

section
variable {s : State}

theorem fluxOf_injected (hsrc : s.novSrc = true) : fluxOf s = rectify (orZero (val s.novInject)) := if_pos hsrc

theorem fluxOf_aggregate (hsrc : s.novSrc = false) (hmode : s.fluxMode = true) : fluxOf s = fluxAggregate s.dyn := by
  rw [fluxOf, if_neg (ne_true_of_eq_false hsrc), if_pos hmode]

theorem fluxOf_perBin (hsrc : s.novSrc = false) (hmode : s.fluxMode = false) : fluxOf s = fluxPerBin s.dyn := by
  rw [fluxOf, if_neg (ne_true_of_eq_false hsrc), if_neg (ne_true_of_eq_false hmode)]

end

/-- Settles O35: each mode's clause is that mode's definition. -/
theorem onsetFlux : Obligations.OnsetFlux := by
  intro s
  refine ⟨s.onset.complete, rfl, by simp [completed], s.onset_prevMag, fun hsrc => ?_, fun hsrc hmode => ?_,
    fun hsrc hmode rise hrise => ?_⟩ <;> rw [State.complete_dyn, State.onset_wFlux]
  · rw [fluxOf_injected hsrc, rectify_orZero_toBits]
  · rw [fluxOf_perBin hsrc hmode]
    rfl
  · rw [fluxOf_aggregate hsrc hmode, hrise]
    rfl

/-! ## The history (R153) -/

theorem State.onset_novHist_decayed (s : State) {j : Fin 128} (hj : j ≠ s.dyn.novWptr) :
    s.onset.dyn.novHist[j] = ((val s.dyn.novHist[j]).mul (val s.cfg.novDecay)).toBits := by
  rw [State.onset_novHist]
  calc ((decayedHist s.cfg s.dyn).set s.dyn.novWptr (fluxOf s).toBits)[j]
      = (decayedHist s.cfg s.dyn)[j] := Vector.getElem_set_ne _ _ fun heq => hj (Fin.ext heq.symm)
    _ = _ := getElem_ofFn _ j

/-- The entries the baseline reads are the old ones, each decayed once. -/
theorem recentNov_decayedHist (c : Cfg) (d : Dyn) (j : Nat) (a : Fin 128)
    (ha : a.val = (((d.novWptr.val : Int) - j) % 128).toNat) :
    recentNov (decayedHist c d) d.novWptr j = val ((val d.novHist[a]).mul (val c.novDecay)).toBits := by
  have hentry : recentNov (decayedHist c d) d.novWptr j = val (decayedHist c d)[a] := by
    simp only [recentNov, Fin.getElem_fin, ha]
  rw [hentry, decayedHist, getElem_ofFn]

/-- Settles O36: the sequence of the statement is `recentNov` of the decayed history. -/
theorem onsetHistory : Obligations.OnsetHistory := by
  intro s
  refine ⟨s.onset.complete, rfl, s.onset_novHist_newest, fun j => s.onset_novHist_decayed, ?_, fun e he => ?_⟩
  · rw [State.complete_dyn, State.onset_novWptr, Fin.val_add]
    rfl
  · obtain rfl : e = recentNov (decayedHist s.cfg s.dyn) s.dyn.novWptr := funext fun j =>
      (he j ⟨(((s.dyn.novWptr.val : Int) - j) % 128).toNat, by omega⟩ rfl).trans
        (recentNov_decayedHist s.cfg s.dyn j _ rfl).symm
    exact s.onset_wBaseline

/-- Settles O37: the words written are formed from the flux and the baseline that the stored words read back as. -/
theorem onsetNoveltyAndFlag : Obligations.OnsetNoveltyAndFlag := by
  intro s
  refine ⟨s.onset.complete, rfl, ?_⟩
  rintro _ _ rfl rfl
  rw [State.complete_dyn, State.val_onset_wFlux, State.val_onset_wBaseline]
  exact ⟨s.onset_wNovelty, s.onset_wXin, s.onset_wOnset⟩

/-! ## Faults and frame (R156, R177) -/

/-- Tests in a row count as many faults as fire. -/
theorem State.foldl_numfaultIf (faults : List Bool) (s : State) :
    faults.foldl State.numfaultIf s = s.numfaults (faults.count true) := by
  induction faults generalizing s with
  | nil => rfl
  | cons b faults ih =>
    rw [List.foldl_cons, ih]
    cases b with
    | false => rfl
    | true => rw [List.count_cons_self]; rfl

/-- The tests of RUN_ONSET, in the order of its faults. -/
def State.onsetFaults (s : State) : List Bool :=
  [fluxFault s, !(baselineMean s.cfg s.dyn).finite, !s.rawNovelty.finite, !s.rawXin.finite]

/-- Beside the dynamic state RUN_ONSET only counts its faults. -/
theorem State.onset_eq_numfaults (s : State) :
    s.onset = { s with dyn := s.onset.dyn }.numfaults (s.onsetFaults.count true) := by
  rw [← State.foldl_numfaultIf]
  unfold State.onset
  simp only [State.numfaultIf_dyn]
  rfl

section
variable (s : State)

theorem State.onset_numErrCount_toNat :
    s.onset.numErrCount.toNat = min (s.numErrCount.toNat + s.onsetFaults.count true) 0xFFFFFFFF := by
  rw [State.onset_eq_numfaults]
  exact State.numfaults_numErrCount_toNat _ _

theorem State.onset_err :
    s.onset.err = if s.onsetFaults.count true = 0 then s.err else s.err ||| Err.numeric.mask := by
  rw [State.onset_eq_numfaults]
  exact State.numfaults_err _ _

theorem State.onset_lastCode :
    s.onset.lastCode = if s.onsetFaults.count true = 0 then s.lastCode else Err.numeric.code := by
  rw [State.onset_eq_numfaults]
  exact State.numfaults_lastCode _ _

theorem State.onset_frame :
    s.onset = { s with
      err := s.onset.err, lastCode := s.onset.lastCode, numErrCount := s.onset.numErrCount, dyn := s.onset.dyn } := by
  have hframe := State.numfaults_frame { s with dyn := s.onset.dyn } (s.onsetFaults.count true)
  rwa [← State.onset_eq_numfaults] at hframe

end

/-- Settles O38: the statement's list is `onsetFaults`, since the stored flux and baseline read back. -/
theorem onsetFrame : Obligations.OnsetFrame := by
  intro s
  refine ⟨s.onset.complete, rfl, ?_, ?_⟩
  · rintro _ _ _ n rfl rfl rfl hn
    rw [State.complete_dyn, State.val_onset_wFlux, State.val_onset_wBaseline] at hn
    obtain rfl : n = s.onsetFaults.count true := hn
    exact ⟨s.onset_numErrCount_toNat, s.onset_err, s.onset_lastCode⟩
  · have hframe := s.onset_frame
    rw [State.complete_dyn, ← State.onset_dyn, State.complete_lastCycles, State.complete_draws, State.onset_draws]
    generalize s.onset = u at hframe ⊢
    exact congrArg State.complete hframe

end Sys2Proof.Machine
end

section
/-! What RUN_TEMPO leaves in each word it writes (44_tempo.md R157 to R168): every step writes words of its own, so what a
step computes from earlier words can be read off the state the instruction ends in. -/

namespace Sys2Proof.Machine

/-! ## The states between the steps (R169) -/

section
variable (s : State)

/-- After the power sum and the winner (R157 to R162). -/
def State.tempoScored : State := s.tempoOscillators.tempoPower

/-- After the confidence and the contributions (R163, R164). -/
def State.tempoShared : State := s.tempoScored.tempoConfidence.tempoContrib

/-- After the tempo (R165). -/
def State.tempoEstimated : State := s.tempoShared.tempoBpm

theorem State.tempo_eq : s.tempo = (s.tempoEstimated.tempoPhase (elapsedHops s.dyn)).tempoLock := rfl

@[simp] theorem State.tempoScored_cfg : s.tempoScored.cfg = s.cfg := by simp [State.tempoScored]
@[simp] theorem State.tempoShared_cfg : s.tempoShared.cfg = s.cfg := by simp [State.tempoShared]
@[simp] theorem State.tempoEstimated_cfg : s.tempoEstimated.cfg = s.cfg := by simp [State.tempoEstimated]

/-- From the tempo on, W_PHASE, W_POLARITY, W_PHASE01 and W_LOCKED are written. -/
theorem State.tempo_dyn_of_estimated : s.tempo.dyn =
    { s.tempoEstimated.dyn with
      wPhase := s.tempo.dyn.wPhase, wPolarity := s.tempo.dyn.wPolarity
      wPhase01 := s.tempo.dyn.wPhase01, wLocked := s.tempo.dyn.wLocked } := by
  rw [State.tempo_eq, State.tempoLock_dyn, State.tempoPhase_dyn]

/-- From the confidence to the tempo no word of an oscillator but its contribution is written, nor the power sum or the
winner. -/
theorem State.tempoEstimated_dyn : s.tempoEstimated.dyn =
    { s.tempoScored.dyn with
      wConf := s.tempoEstimated.dyn.wConf, oscContrib := s.tempoEstimated.dyn.oscContrib
      wBpm := s.tempoEstimated.dyn.wBpm, tempoOsc := s.tempoEstimated.dyn.tempoOsc
      tempoValid := s.tempoEstimated.dyn.tempoValid, wBpmRej := s.tempoEstimated.dyn.wBpmRej } := by
  rw [State.tempoEstimated, State.tempoBpm_dyn, State.tempoShared, State.tempoContrib_dyn, State.tempoConfidence_dyn]

/-- Up to the winner the oscillators and the score are written. -/
theorem State.tempoScored_dyn : s.tempoScored.dyn =
    { s.dyn with
      elapsedPend := s.tempoScored.dyn.elapsedPend, wBpmRej := s.tempoScored.dyn.wBpmRej
      oscRe := s.tempoScored.dyn.oscRe, oscIm := s.tempoScored.dyn.oscIm, oscRaw := s.tempoScored.dyn.oscRaw
      oscPhase := s.tempoScored.dyn.oscPhase, oscActive := s.tempoScored.dyn.oscActive
      oscSmooth := s.tempoScored.dyn.oscSmooth, wPowerSum := s.tempoScored.dyn.wPowerSum
      wWinner := s.tempoScored.dyn.wWinner } := by
  rw [State.tempoScored, State.tempoPower_dyn, State.tempoOscillators_dyn]

end

/-! ## The oscillators (R158 to R160) -/

section
variable (c : Cfg) (d : Dyn) (m : Fin 121)

/-- The real part after the damped rotation and the input (R158). -/
def resonatorRe : F32 :=
  ((val c.resDecay).mul (((val c.oscCos[m]).mul (val d.oscRe[m])).sub ((val c.oscSin[m]).mul (val d.oscIm[m])))).add
    ((val c.resIn).mul (val d.wXin))

/-- The imaginary part after the damped rotation (R158). -/
def resonatorIm : F32 :=
  (val c.resDecay).mul (((val c.oscSin[m]).mul (val d.oscRe[m])).add ((val c.oscCos[m]).mul (val d.oscIm[m])))

/-- The raw magnitude of the rotated resonator (R158). -/
def resonatorRaw : F32 :=
  (((resonatorRe c d m).mul (resonatorRe c d m)).add ((resonatorIm c d m).mul (resonatorIm c d m))).sqrt.mul (val c.oscGain)

/-- The three results are finite, so the resonator takes them (R158). -/
def resonatorGood : Bool :=
  (resonatorRe c d m).finite && (resonatorIm c d m).finite && (resonatorRaw c d m).finite

/-- The smoothed magnitude before its check, from the raw magnitude stored (R159, R160). -/
def smoothedFrom (raw : Word) : F32 :=
  smoothedOf c ((val raw).gt (val c.actThresh)) (val d.oscSmooth[m]) (val raw)

theorem oscActivity_eq (re im raw phase : Word) (faults : Nat) :
    oscActivity c d m re im raw phase faults =
      ⟨re, im, raw, phase, (val raw).gt (val c.actThresh),
        if (smoothedFrom c d m raw).finite then (smoothedFrom c d m raw).toBits else d.oscSmooth[m],
        faults + (!(smoothedFrom c d m raw).finite).toNat⟩ := by
  unfold oscActivity
  extract_lets active sm
  have hsm : sm = smoothedFrom c d m raw := rfl
  rw [hsm]
  cases (smoothedFrom c d m raw).finite <;> rfl

variable {c d m}

theorem oscLane_good (h : resonatorGood c d m = true) :
    oscLane c d m = oscActivity c d m (resonatorRe c d m).toBits (resonatorIm c d m).toBits (resonatorRaw c d m).toBits
      (oscPhaseOf (resonatorIm c d m) (resonatorRe c d m)).toBits 0 := if_pos h

theorem oscLane_bad (h : resonatorGood c d m = false) :
    oscLane c d m = oscActivity c d m d.oscRe[m] d.oscIm[m] d.oscRaw[m] d.oscPhase[m] 1 :=
  if_neg (ne_true_of_eq_false h)

variable (c d m)

/-- Whatever the resonator holds, R159 and R160 follow its raw magnitude. -/
theorem oscLane_activity :
    oscLane c d m = oscActivity c d m (oscLane c d m).re (oscLane c d m).im (oscLane c d m).raw (oscLane c d m).phase
      (!resonatorGood c d m).toNat := by
  cases h : resonatorGood c d m with
  | true => simp only [oscLane_good h, oscActivity_eq, Bool.not_true, Bool.toNat_false]
  | false => simp only [oscLane_bad h, oscActivity_eq, Bool.not_false, Bool.toNat_true]

theorem oscLane_active : (oscLane c d m).active = (val (oscLane c d m).raw).gt (val c.actThresh) := by
  conv_lhs => rw [oscLane_activity, oscActivity_eq]

theorem oscLane_smooth :
    (oscLane c d m).smooth =
      if (smoothedFrom c d m (oscLane c d m).raw).finite then (smoothedFrom c d m (oscLane c d m).raw).toBits
      else d.oscSmooth[m] := by
  conv_lhs => rw [oscLane_activity, oscActivity_eq]

theorem oscLane_faults :
    (oscLane c d m).faults =
      (!resonatorGood c d m).toNat + (!(smoothedFrom c d m (oscLane c d m).raw).finite).toNat := by
  conv_lhs => rw [oscLane_activity, oscActivity_eq]

end

section
variable (s : State) (m : Fin 121)

/-- The four words of a resonator and the two derived from its raw magnitude, after RUN_TEMPO. -/
theorem State.tempo_lane :
    s.tempo.dyn.oscRe[m] = (oscLane s.cfg s.dyn m).re ∧ s.tempo.dyn.oscIm[m] = (oscLane s.cfg s.dyn m).im ∧
    s.tempo.dyn.oscRaw[m] = (oscLane s.cfg s.dyn m).raw ∧ s.tempo.dyn.oscPhase[m] = (oscLane s.cfg s.dyn m).phase ∧
    s.tempo.dyn.oscActive[m] = (oscLane s.cfg s.dyn m).active ∧
    s.tempo.dyn.oscSmooth[m] = (oscLane s.cfg s.dyn m).smooth := by
  rw [State.tempo_dyn_of_estimated, State.tempoEstimated_dyn, State.tempoScored, State.tempoPower_dyn]
  simp only [State.tempoOscillators, State.numfaults_dyn, getElem_ofFn, and_self]

theorem State.tempo_oscRaw : s.tempo.dyn.oscRaw[m] = (oscLane s.cfg s.dyn m).raw := by
  obtain ⟨-, -, hraw, -⟩ := s.tempo_lane m
  exact hraw

end

/-- Settles O39: the stored words are the lane's, and the lane takes the rotated resonator or keeps the old one. -/
theorem oscillatorUpdate : Obligations.OscillatorUpdate := by
  intro s
  refine ⟨s.tempo.complete, rfl, fun m => ?_⟩
  obtain ⟨hre, him, hraw, hphase, hactive, hsmooth⟩ := s.tempo_lane m
  have hgood : resonatorGood s.cfg s.dyn m = true ↔ (resonatorRe s.cfg s.dyn m).finite = true ∧
      (resonatorIm s.cfg s.dyn m).finite = true ∧ (resonatorRaw s.cfg s.dyn m).finite = true := by
    rw [resonatorGood, Bool.and_eq_true, Bool.and_eq_true, and_assoc]
  rw [State.complete_dyn]
  generalize s.tempo = t at *
  refine ⟨fun h => ?_, fun h => ?_, ?_, ?_⟩
  · rw [hre, him, hraw, hphase, oscLane_good (hgood.mpr h), oscActivity_eq]
    exact ⟨rfl, rfl, rfl, rfl⟩
  · rw [hre, him, hraw, hphase, oscLane_bad (Bool.eq_false_of_not_eq_true (mt hgood.mp h)), oscActivity_eq]
    exact ⟨rfl, rfl, rfl, rfl⟩
  · rw [hactive, hraw, oscLane_active]
  · rw [hsmooth, hraw, oscLane_smooth]
    rfl

/-! ## The score: power sum, winner and what they are read from (R161 to R164) -/

/-- What the shares and the tempo are read from. -/
structure Score where
  cfg : Cfg
  oscActive : Vector Bool 121
  oscSmooth : Vector Word 121
  wPowerSum : Word
  wWinner : Fin 121

/-- The score of a state. -/
def State.score (s : State) : Score := ⟨s.cfg, s.dyn.oscActive, s.dyn.oscSmooth, s.dyn.wPowerSum, s.dyn.wWinner⟩

section
variable {s t : State}

theorem powered_of_score_eq (h : t.score = s.score) : powered t = powered s := by
  obtain ⟨hcfg, -, -, hsum, -⟩ := Score.mk.inj h
  simp only [powered, hcfg, hsum]

theorem winnerShare_of_score_eq (h : t.score = s.score) :
    shareOf t t.dyn.oscSmooth[t.dyn.wWinner] = shareOf s s.dyn.oscSmooth[s.dyn.wWinner] := by
  obtain ⟨-, -, hsmooth, hsum, hwinner⟩ := Score.mk.inj h
  simp only [shareOf, hsmooth, hsum, hwinner]

theorem contribution_of_score_eq (h : t.score = s.score) (m : Fin 121) : contribution t m = contribution s m := by
  obtain ⟨-, hactive, hsmooth, hsum, -⟩ := Score.mk.inj h
  unfold contribution contributes shareOf
  rw [powered_of_score_eq h, hactive, hsmooth, hsum]

theorem bpmAccepted_of_score_eq (h : t.score = s.score) : bpmAccepted t = bpmAccepted s := by
  obtain ⟨hcfg, -, -, -, hwinner⟩ := Score.mk.inj h
  simp only [bpmAccepted, hcfg, hwinner]

end

section
variable (s : State)

theorem State.tempoConfidence_score : s.tempoConfidence.score = s.score := by
  unfold State.score
  rw [State.tempoConfidence_cfg, State.tempoConfidence_dyn]

theorem State.tempoShared_score : s.tempoShared.score = s.tempoScored.score := by
  unfold State.score
  rw [State.tempoShared_cfg, State.tempoScored_cfg, State.tempoShared, State.tempoContrib_dyn, State.tempoConfidence_dyn]

/-- The score the later steps read is the one RUN_TEMPO leaves. -/
theorem State.tempo_score : s.tempo.score = s.tempoScored.score := by
  unfold State.score
  rw [State.tempo_cfg, State.tempoScored_cfg, State.tempo_dyn_of_estimated, State.tempoEstimated_dyn]

theorem State.tempo_wPowerSum : s.tempo.dyn.wPowerSum = (powerSumOf s.tempo.dyn).toBits := by
  unfold powerSumOf
  rw [State.tempo_dyn_of_estimated, State.tempoEstimated_dyn, State.tempoScored, State.tempoPower, powerSumOf]

theorem State.tempo_wWinner : s.tempo.dyn.wWinner = winnerOf s.tempo.dyn := by
  unfold winnerOf
  rw [State.tempo_dyn_of_estimated, State.tempoEstimated_dyn, State.tempoScored, State.tempoPower, winnerOf]

end

/-! ## The winner (R162) -/

/-- A scan that replaces its candidate on a strictly larger value only finds the library's `argmax`. -/
theorem foldl_larger_eq_argmax {α β : Type} [LinearOrder β] (f : α → β) (l : List α) (w : α) :
    some (l.foldl (fun w m => if f w < f m then m else w) w) = (w :: l).argmax f := by
  show _ = l.foldl (List.argAux fun b c => f c < f b) (some w)
  induction l generalizing w with
  | nil => rfl
  | cons m l ih =>
    rw [List.foldl_cons, List.foldl_cons, ih]
    exact congrArg (l.foldl _) (apply_ite some _ _ _)

/-- With no NaN about, the winner is the first index of largest rank. -/
theorem winnerOf_argmax {d : Dyn} (hord : ∀ m : Fin 121, (val d.oscSmooth[m]).ordered = true) :
    some (winnerOf d) = (List.finRange 121).argmax fun m => (val d.oscSmooth[m]).rank := by
  have hgt (m w : Fin 121) : (val d.oscSmooth[m]).gt (val d.oscSmooth[w]) = true ↔
      (val d.oscSmooth[w]).rank < (val d.oscSmooth[m]).rank := by
    rw [F32.gt, F32.lt_iff]
    exact ⟨fun ⟨_, _, hlt⟩ => hlt, fun hlt => ⟨hord w, hord m, hlt⟩⟩
  unfold winnerOf
  simp only [hgt]
  rw [List.finRange_succ, List.foldl_cons, if_neg (lt_irrefl _)]
  exact foldl_larger_eq_argmax (fun m : Fin 121 => (val d.oscSmooth[m]).rank) _ 0

/-- The winner is the largest, and every oscillator before it is smaller. -/
theorem winner_largest {d : Dyn} (hwinner : d.wWinner = winnerOf d)
    (hord : ∀ m : Fin 121, (val d.oscSmooth[m]).ordered = true) (m : Fin 121) :
    (val d.oscSmooth[m]).le (val d.oscSmooth[d.wWinner]) = true ∧
      (m < d.wWinner → (val d.oscSmooth[m]).lt (val d.oscSmooth[d.wWinner]) = true) := by
  obtain ⟨-, hmax, hfirst⟩ := List.argmax_eq_some_iff.mp (winnerOf_argmax hord).symm
  rw [← hwinner] at hmax hfirst
  refine ⟨F32.le_iff.mpr ⟨hord m, hord _, hmax m (List.mem_finRange m)⟩, fun hlt => ?_⟩
  refine F32.lt_iff.mpr ⟨hord m, hord _, lt_of_not_ge fun hge => ?_⟩
  have hidx := hfirst m (List.mem_finRange m) hge
  rw [List.idxOf_finRange, List.idxOf_finRange] at hidx
  exact absurd hlt (not_lt.mpr hidx)

/-- Settles O41: both are read from the smoothed magnitudes and the activity that RUN_TEMPO leaves. -/
theorem powerSumAndWinner : Obligations.PowerSumAndWinner := fun s =>
  ⟨s.tempo.complete, rfl, s.tempo_wPowerSum, winner_largest s.tempo_wWinner⟩

/-! ## Confidence and contributions (R163, R164) -/

/-- The confidence's share of the power sum is not finite (R163). -/
def confidenceFault (s : State) : Bool := powered s && !(shareOf s s.dyn.oscSmooth[s.dyn.wWinner]).finite

theorem State.tempoConfidence_wConf (s : State) :
    s.tempoConfidence.dyn.wConf =
      if powered s then
        if (shareOf s s.dyn.oscSmooth[s.dyn.wWinner]).finite then (shareOf s s.dyn.oscSmooth[s.dyn.wWinner]).toBits
        else s.dyn.wConf
      else F32.zero.toBits := by
  unfold State.tempoConfidence
  split
  · extract_lets share
    split <;> rfl
  · rfl

theorem State.tempoContrib_oscContrib (s : State) (m : Fin 121) :
    s.tempoContrib.dyn.oscContrib[m] =
      (if (contribution s m).finite then contribution s m else F32.zero).toBits := by
  unfold State.tempoContrib
  rw [State.numfaults_dyn, getElem_ofFn]

/-- A contribution is stored where the oscillator is active, the power sum is above CONF_EPS and the share is finite. -/
theorem contribution_toBits (s : State) (m : Fin 121) :
    (if (contribution s m).finite then contribution s m else F32.zero).toBits =
      if s.dyn.oscActive[m] && powered s && (shareOf s s.dyn.oscSmooth[m]).finite
      then (shareOf s s.dyn.oscSmooth[m]).toBits else 0#32 := by
  unfold contribution contributes
  cases s.dyn.oscActive[m] && powered s with
  | false => rfl
  | true =>
    cases hfin : (shareOf s s.dyn.oscSmooth[m]).finite with
    | false => simp only [if_true, hfin]; rfl
    | true => simp only [if_true, hfin, Bool.and_self]

section
variable (s : State)

theorem State.tempo_wConf :
    s.tempo.dyn.wConf =
      if powered s.tempo then
        if (shareOf s.tempo s.tempo.dyn.oscSmooth[s.tempo.dyn.wWinner]).finite
        then (shareOf s.tempo s.tempo.dyn.oscSmooth[s.tempo.dyn.wWinner]).toBits else s.dyn.wConf
      else F32.zero.toBits := by
  rw [powered_of_score_eq s.tempo_score, winnerShare_of_score_eq s.tempo_score]
  have hold : s.tempoScored.dyn.wConf = s.dyn.wConf := by rw [State.tempoScored_dyn]
  rw [← hold, ← State.tempoConfidence_wConf, State.tempo_dyn_of_estimated, State.tempoEstimated, State.tempoBpm_dyn,
    State.tempoShared, State.tempoContrib_dyn]

theorem State.tempo_oscContrib (m : Fin 121) :
    s.tempo.dyn.oscContrib[m] =
      (if (contribution s.tempo m).finite then contribution s.tempo m else F32.zero).toBits := by
  have hscore : s.tempoScored.tempoConfidence.score = s.tempo.score :=
    (State.tempoConfidence_score _).trans s.tempo_score.symm
  rw [← contribution_of_score_eq hscore, ← State.tempoContrib_oscContrib, State.tempo_dyn_of_estimated,
    State.tempoEstimated, State.tempoBpm_dyn]
  rfl

end

/-- Settles O42: the shares are of the power sum RUN_TEMPO leaves. -/
theorem confidenceAndContributions : Obligations.ConfidenceAndContributions := by
  intro s
  refine ⟨s.tempo.complete, rfl, ?_⟩
  rintro _ rfl
  have heps : s.cfg = s.tempo.cfg := s.tempo_cfg.symm
  rw [heps]
  exact ⟨s.tempo_wConf, fun m => (s.tempo_oscContrib m).trans (contribution_toBits s.tempo m)⟩

end Sys2Proof.Machine
end

section
/-! The tempo, the global phase and the beat of RUN_TEMPO (44_tempo.md R165 to R168), and its faults and frame (R169). -/

namespace Sys2Proof.Machine

/-! ## The tempo (R165) -/

/-- W_BPM, TEMPO_OSC, TEMPO_VALID and W_BPM_REJ. -/
structure Estimate where
  wBpm : Word
  tempoOsc : Fin 121
  tempoValid : Bool
  wBpmRej : Bool

/-- These words of a dynamic state. -/
def Dyn.estimate (d : Dyn) : Estimate := ⟨d.wBpm, d.tempoOsc, d.tempoValid, d.wBpmRej⟩

/-- The winner's BPM is formed and lies outside the bounds. -/
def bpmRejected (s : State) : Bool := powered s && !bpmAccepted s

section
variable (s : State)

theorem State.tempoBpm_estimate :
    s.tempoBpm.dyn.estimate =
      if powered s then
        if bpmAccepted s then ⟨s.cfg.oscBpm[s.dyn.wWinner], s.dyn.wWinner, true, s.dyn.wBpmRej⟩
        else { s.dyn.estimate with wBpmRej := true }
      else s.dyn.estimate := by
  unfold State.tempoBpm
  split
  · split <;> rfl
  · rfl

/-- Up to the tempo only W_BPM_REJ of these words changes (R157). -/
theorem State.tempoShared_estimate : s.tempoShared.dyn.estimate = { s.dyn.estimate with wBpmRej := false } := by
  unfold Dyn.estimate
  rw [State.tempoShared, State.tempoContrib_dyn, State.tempoConfidence_dyn, State.tempoScored, State.tempoPower_dyn]
  simp only [State.tempoOscillators, State.numfaults_dyn]

theorem State.tempoShared_score_eq_tempo : s.tempoShared.score = s.tempo.score :=
  s.tempoShared_score.trans s.tempo_score.symm

theorem State.tempo_estimate :
    s.tempo.dyn.estimate =
      if powered s.tempo then
        if bpmAccepted s.tempo then ⟨s.cfg.oscBpm[s.tempo.dyn.wWinner], s.tempo.dyn.wWinner, true, false⟩
        else { s.dyn.estimate with wBpmRej := true }
      else { s.dyn.estimate with wBpmRej := false } := by
  have hscore := s.tempoShared_score_eq_tempo
  have hwinner : s.tempoShared.dyn.wWinner = s.tempo.dyn.wWinner := congrArg Score.wWinner hscore
  have hrej : s.tempoShared.dyn.wBpmRej = false := congrArg Estimate.wBpmRej s.tempoShared_estimate
  have hlast : s.tempo.dyn.estimate = s.tempoEstimated.dyn.estimate := by
    unfold Dyn.estimate
    rw [State.tempo_dyn_of_estimated]
  rw [hlast, State.tempoEstimated, State.tempoBpm_estimate, powered_of_score_eq hscore, bpmAccepted_of_score_eq hscore]
  simp only [hwinner, hrej, State.tempoShared_estimate, State.tempoShared_cfg]

variable {s}

theorem State.tempo_estimate_accepted (hpow : powered s.tempo = true) (hok : bpmAccepted s.tempo = true) :
    s.tempo.dyn.estimate = ⟨s.cfg.oscBpm[s.tempo.dyn.wWinner], s.tempo.dyn.wWinner, true, false⟩ := by
  rw [State.tempo_estimate, if_pos hpow, if_pos hok]

theorem State.tempo_estimate_rejected (hpow : powered s.tempo = true) (hbad : ¬ bpmAccepted s.tempo = true) :
    s.tempo.dyn.estimate = { s.dyn.estimate with wBpmRej := true } := by
  rw [State.tempo_estimate, if_pos hpow, if_neg hbad]

theorem State.tempo_estimate_absent (hpow : powered s.tempo = false) :
    s.tempo.dyn.estimate = { s.dyn.estimate with wBpmRej := false } := by
  rw [State.tempo_estimate, if_neg (ne_true_of_eq_false hpow)]

end

/-! ## The global phase (R166) -/

theorem wrapPhase_fst (p : F32) :
    (wrapPhase p).1 = if p.gt F32.pi then p.sub F32.twoPi else if p.le F32.negPi then p.add F32.twoPi else p := by
  unfold wrapPhase
  split
  · rfl
  · split <;> rfl

theorem wrapPhase_snd (p : F32) : (wrapPhase p).2 = (p.gt F32.pi || p.le F32.negPi) := by
  unfold wrapPhase
  split
  next hgt => rw [hgt]; rfl
  next hgt =>
    rw [Bool.eq_false_of_not_eq_true hgt]
    split
    next hle => rw [hle]; rfl
    next hle => rw [Bool.eq_false_of_not_eq_true hle]; rfl

/-- The phase RUN_TEMPO moves to from the old one, before its wrap, by the rate and the phase of the oscillator that the
tempo `t` leaves names. -/
def phaseAdvance (s t : State) : F32 :=
  ((val s.dyn.wPhase).add ((val s.cfg.oscOmega[t.dyn.tempoOsc]).mul (F32.ofInt (elapsedHops s.dyn)))).add
    ((val s.cfg.pllKp).mul (wrapPhase ((val t.dyn.oscPhase[t.dyn.tempoOsc]).sub (val s.dyn.wPhase))).1)

/-- The phase step is refused. -/
def phaseRefused (s t : State) : Bool := t.dyn.tempoValid && !phaseLegal (wrapPhase (phaseAdvance s t)).1

section
variable (s : State)

/-- What the phase step reads. -/
theorem State.tempoEstimated_phase :
    s.tempoEstimated.dyn.tempoOsc = s.tempo.dyn.tempoOsc ∧ s.tempoEstimated.dyn.tempoValid = s.tempo.dyn.tempoValid ∧
    s.tempoEstimated.dyn.oscPhase = s.tempo.dyn.oscPhase ∧ s.tempoEstimated.dyn.wPhase = s.dyn.wPhase ∧
    s.tempoEstimated.dyn.wPolarity = s.dyn.wPolarity := by
  rw [State.tempo_dyn_of_estimated]
  refine ⟨rfl, rfl, rfl, ?_, ?_⟩ <;> rw [State.tempoEstimated_dyn, State.tempoScored_dyn]

theorem State.tempoEstimated_phaseNext :
    phaseNext s.tempoEstimated (elapsedHops s.dyn) = wrapPhase (phaseAdvance s s.tempo) := by
  obtain ⟨hosc, -, hphases, hphase, -⟩ := s.tempoEstimated_phase
  simp only [phaseNext, phaseAdvance, State.tempoEstimated_cfg, hosc, hphases, hphase]

theorem State.tempoPhase_moved {e : Nat} (h : (s.dyn.tempoValid && phaseLegal (phaseNext s e).1) = true) :
    (s.tempoPhase e).dyn.wPhase = (phaseNext s e).1.toBits ∧
      (s.tempoPhase e).dyn.wPolarity = (s.dyn.wPolarity ^^ (phaseNext s e).2) := by
  obtain ⟨hvalid, hlegal⟩ := Bool.and_eq_true_iff.mp h
  rw [State.tempoPhase, if_pos hvalid, if_pos hlegal]
  exact ⟨rfl, rfl⟩

theorem State.tempoPhase_kept {e : Nat} (h : (s.dyn.tempoValid && phaseLegal (phaseNext s e).1) = false) :
    (s.tempoPhase e).dyn = s.dyn := by
  unfold State.tempoPhase
  split
  next hvalid =>
    rw [hvalid, Bool.true_and] at h
    rw [if_neg (ne_true_of_eq_false h), State.numfault_dyn]
  next => rfl

theorem State.tempo_phase :
    s.tempo.dyn.wPhase = (s.tempoEstimated.tempoPhase (elapsedHops s.dyn)).dyn.wPhase ∧
      s.tempo.dyn.wPolarity = (s.tempoEstimated.tempoPhase (elapsedHops s.dyn)).dyn.wPolarity := by
  rw [State.tempo_eq, State.tempoLock_dyn]
  exact ⟨rfl, rfl⟩

theorem State.tempo_phase_moved (hvalid : s.tempo.dyn.tempoValid = true)
    (hlegal : phaseLegal (wrapPhase (phaseAdvance s s.tempo)).1 = true) :
    s.tempo.dyn.wPhase = (wrapPhase (phaseAdvance s s.tempo)).1.toBits ∧
      s.tempo.dyn.wPolarity = (s.dyn.wPolarity ^^ (wrapPhase (phaseAdvance s s.tempo)).2) := by
  obtain ⟨-, hvalid', -, -, hpol⟩ := s.tempoEstimated_phase
  obtain ⟨hphase, hpolarity⟩ := s.tempo_phase
  rw [hphase, hpolarity, ← hpol, ← State.tempoEstimated_phaseNext]
  rw [← State.tempoEstimated_phaseNext] at hlegal
  exact State.tempoPhase_moved _ (Bool.and_eq_true_iff.mpr ⟨hvalid'.trans hvalid, hlegal⟩)

theorem State.tempo_phase_kept
    (h : (s.tempo.dyn.tempoValid && phaseLegal (wrapPhase (phaseAdvance s s.tempo)).1) = false) :
    s.tempo.dyn.wPhase = s.dyn.wPhase ∧ s.tempo.dyn.wPolarity = s.dyn.wPolarity := by
  obtain ⟨-, hvalid, -, hold, hpol⟩ := s.tempoEstimated_phase
  obtain ⟨hphase, hpolarity⟩ := s.tempo_phase
  rw [← hvalid, ← State.tempoEstimated_phaseNext] at h
  rw [hphase, hpolarity, State.tempoPhase_kept _ h]
  exact ⟨hold, hpol⟩

end

/-- Settles O44: the statement's step is `wrapPhase` of `phaseAdvance`, taken where it is legal. -/
theorem globalPhaseStep : Obligations.GlobalPhaseStep := by
  intro s
  refine ⟨s.tempo.complete, rfl, congrArg Fin.val s.tempo_elapsedPend, fun hvalid => ?_, ?_⟩
  · exact s.tempo_phase_kept (by rw [show s.tempo.dyn.tempoValid = false from hvalid, Bool.false_and])
  · rintro hvalid _ rfl
    simp only [← wrapPhase_fst, ← wrapPhase_snd]
    split
    next hlegal => exact s.tempo_phase_moved hvalid hlegal
    next hlegal =>
      exact s.tempo_phase_kept (Bool.and_eq_false_iff.mpr (.inr (Bool.eq_false_of_not_eq_true hlegal)))

/-! ## The beat (R167, R168) -/

theorem State.tempo_beat (s : State) :
    s.tempo.dyn.wPhase01 = (phase01Of (val s.tempo.dyn.wPhase)).toBits ∧
      s.tempo.dyn.wLocked = (s.tempo.dyn.tempoValid && (val s.tempo.dyn.wConf).ge (val s.cfg.lockThresh)) := by
  have hcfg : (s.tempoEstimated.tempoPhase (elapsedHops s.dyn)).cfg = s.cfg := by simp
  rw [← hcfg, State.tempo_eq]
  exact ⟨rfl, rfl⟩

/-- Settles O45: both are the last step's, and it writes nothing they are read from. -/
theorem beatPhaseAndLock : Obligations.BeatPhaseAndLock := by
  intro s
  obtain ⟨hbeat, hlock⟩ := s.tempo_beat
  refine ⟨s.tempo.complete, rfl, ?_, hlock⟩
  rintro _ rfl
  exact hbeat

/-! ## Faults (R158, R160, R163 to R166, R177) -/

/-- `s` with another dynamic state. -/
def State.withDyn (s : State) (d : Dyn) : State := { s with dyn := d }

/-- NUMERIC and BPM_REJECT, as a rejected BPM raises them, if the test fires (R165). -/
def State.rejectIf (s : State) (b : Bool) : State := if b then s.numfault.raiseErr .bpmReject else s

/-- `t` is `s` after `n` numeric faults, with a dynamic state of its own. -/
def State.Faulted (s : State) (n : Nat) (t : State) : Prop := t = (s.withDyn t.dyn).numfaults n

theorem State.numfaults_withDyn (s : State) (n : Nat) (d : Dyn) :
    (s.numfaults n).withDyn d = (s.withDyn d).numfaults n := by
  induction n generalizing s with
  | zero => rfl
  | succ n ih => exact ih s.numfault

theorem State.numfaults_add (s : State) (m n : Nat) : (s.numfaults m).numfaults n = s.numfaults (m + n) := by
  induction m generalizing s with
  | zero => rw [Nat.zero_add]; rfl
  | succ m ih => rw [Nat.succ_add]; exact ih s.numfault

theorem State.Faulted.trans {s t u : State} {m n : Nat} (hst : s.Faulted m t) (htu : t.Faulted n u) :
    s.Faulted (m + n) u := by
  have ht : t.withDyn u.dyn = (s.withDyn u.dyn).numfaults m :=
    (congrArg (State.withDyn · u.dyn) hst).trans (State.numfaults_withDyn _ _ _)
  calc u = (t.withDyn u.dyn).numfaults n := htu
    _ = (s.withDyn u.dyn).numfaults (m + n) := by rw [ht, State.numfaults_add]

/-- A sum over the list of two tests is the number of the hits of each. -/
theorem foldl_add_toNat {α : Type} (p q : α → Bool) (l : List α) (k : Nat) :
    l.foldl (fun n a => n + ((p a).toNat + (q a).toNat)) k = k + (l.countP p + l.countP q) := by
  induction l generalizing k with
  | nil => rfl
  | cons a l ih =>
    rw [List.foldl_cons, ih, List.countP_cons, List.countP_cons, Bool.toNat, Bool.toNat, Bool.cond_eq_ite,
      Bool.cond_eq_ite]
    omega

/-- An oscillator counts a fault for its resonator and one for its smoothed magnitude. -/
theorem oscFaults_oscLane (c : Cfg) (d : Dyn) :
    oscFaults (Vector.ofFn (oscLane c d)) =
      (List.finRange 121).countP (fun m => !resonatorGood c d m) +
        (List.finRange 121).countP (fun m => !(smoothedFrom c d m (oscLane c d m).raw).finite) := by
  simp only [oscFaults, getElem_ofFn, oscLane_faults]
  rw [foldl_add_toNat, Nat.zero_add]

/-- A contribution that is not finite is that of an active oscillator's share. -/
theorem contribution_fault (s : State) (m : Fin 121) :
    (!(contribution s m).finite) =
      (s.dyn.oscActive[m] && (powered s && !(shareOf s s.dyn.oscSmooth[m]).finite)) := by
  unfold contribution contributes
  rw [← Bool.and_assoc]
  cases s.dyn.oscActive[m] && powered s <;> rfl

theorem confidenceFault_of_score_eq {s t : State} (h : t.score = s.score) : confidenceFault t = confidenceFault s := by
  unfold confidenceFault
  rw [powered_of_score_eq h, winnerShare_of_score_eq h]

section
variable (s : State)

theorem State.tempoOscillators_faulted :
    s.Faulted (oscFaults (Vector.ofFn (oscLane s.cfg s.dyn))) s.tempoOscillators := by
  unfold State.Faulted State.tempoOscillators
  rw [State.numfaults_dyn]
  rfl

theorem State.tempoPower_faulted : s.Faulted 0 s.tempoPower := rfl

theorem State.tempoConfidence_faulted : s.Faulted (confidenceFault s).toNat s.tempoConfidence := by
  unfold State.Faulted State.tempoConfidence confidenceFault
  cases powered s with
  | false => rfl
  | true =>
    rw [if_pos rfl, Bool.true_and]
    extract_lets share
    cases share.finite <;> rfl

theorem State.tempoContrib_faulted :
    s.Faulted ((List.finRange 121).countP fun m => !(contribution s m).finite) s.tempoContrib := by
  unfold State.Faulted State.tempoContrib
  rw [State.numfaults_dyn]
  rfl

/-- The faults of R158 to R164. -/
def State.earlyFaults : Nat :=
  (List.finRange 121).countP (fun m => !resonatorGood s.cfg s.dyn m) +
    (List.finRange 121).countP (fun m => !(smoothedFrom s.cfg s.dyn m s.tempo.dyn.oscRaw[m]).finite) +
    (confidenceFault s.tempo).toNat + (List.finRange 121).countP fun m => !(contribution s.tempo m).finite

theorem State.tempoShared_faulted : s.Faulted s.earlyFaults s.tempoShared := by
  have hconf := s.tempo_score
  have hcontrib := s.tempo_score.trans (State.tempoConfidence_score s.tempoScored).symm
  have hrun := ((s.tempoOscillators_faulted.trans (State.tempoPower_faulted _)).trans
    (State.tempoConfidence_faulted _)).trans (State.tempoContrib_faulted _)
  have hfaults : s.earlyFaults = oscFaults (Vector.ofFn (oscLane s.cfg s.dyn)) + 0 +
      (confidenceFault s.tempoScored).toNat +
      (List.finRange 121).countP fun m => !(contribution s.tempoScored.tempoConfidence m).finite := by
    simp only [State.earlyFaults, State.tempo_oscRaw, confidenceFault_of_score_eq hconf,
      contribution_of_score_eq hcontrib, oscFaults_oscLane, Nat.add_zero]
  exact hfaults ▸ hrun

theorem State.rejectIf_withDyn (b : Bool) (d : Dyn) : (s.rejectIf b).withDyn d = (s.withDyn d).rejectIf b := by
  cases b <;> rfl

theorem State.numfaultIf_withDyn (b : Bool) (d : Dyn) : (s.numfaultIf b).withDyn d = (s.withDyn d).numfaultIf b := by
  cases b <;> rfl

theorem State.tempoBpm_eq_rejectIf : s.tempoBpm = (s.withDyn s.tempoBpm.dyn).rejectIf (bpmRejected s) := by
  unfold State.tempoBpm bpmRejected
  cases powered s with
  | false => rfl
  | true => cases bpmAccepted s <;> rfl

theorem State.tempoPhase_eq_numfaultIf (e : Nat) :
    s.tempoPhase e = (s.withDyn (s.tempoPhase e).dyn).numfaultIf
      (s.dyn.tempoValid && !phaseLegal (phaseNext s e).1) := by
  unfold State.tempoPhase
  cases s.dyn.tempoValid with
  | false => rfl
  | true => cases phaseLegal (phaseNext s e).1 <;> rfl

/-- Beside the dynamic state RUN_TEMPO raises its faults, in the order of the rules. -/
theorem State.tempo_eq_faults :
    s.tempo = (((s.withDyn s.tempo.dyn).numfaults s.earlyFaults).rejectIf (bpmRejected s.tempo)).numfaultIf
      (phaseRefused s s.tempo) := by
  have hscore := s.tempoShared_score_eq_tempo
  have hrej : bpmRejected s.tempoShared = bpmRejected s.tempo := by
    rw [bpmRejected, bpmRejected, powered_of_score_eq hscore, bpmAccepted_of_score_eq hscore]
  have hshared (d : Dyn) : s.tempoShared.withDyn d = (s.withDyn d).numfaults s.earlyFaults :=
    (congrArg (State.withDyn · d) s.tempoShared_faulted).trans (State.numfaults_withDyn _ _ _)
  have hestimated (d : Dyn) :
      s.tempoEstimated.withDyn d = ((s.withDyn d).numfaults s.earlyFaults).rejectIf (bpmRejected s.tempo) := by
    rw [← hrej, ← hshared]
    exact (congrArg (State.withDyn · d) (State.tempoBpm_eq_rejectIf s.tempoShared)).trans
      (State.rejectIf_withDyn _ _ _)
  obtain ⟨-, hvalid, -⟩ := s.tempoEstimated_phase
  rw [← hestimated, phaseRefused, ← State.tempoEstimated_phaseNext, ← hvalid]
  exact (congrArg (State.withDyn · s.tempo.dyn) (State.tempoPhase_eq_numfaultIf s.tempoEstimated _)).trans
    (State.numfaultIf_withDyn _ _ _)

/-! ## What the faults leave (R176, R177) -/

/-- `k` numeric faults, then a rejected BPM if `r`, then a refused phase step if `p`. -/
def State.afterFaults (k : Nat) (r p : Bool) : State := ((s.numfaults k).rejectIf r).numfaultIf p

theorem State.afterFaults_numErrCount_toNat (k : Nat) (r p : Bool) :
    (s.afterFaults k r p).numErrCount.toNat = min (s.numErrCount.toNat + (k + r.toNat + p.toNat)) 0xFFFFFFFF := by
  have hif (u : State) (b : Bool) :
      (u.numfaultIf b).numErrCount.toNat = min (u.numErrCount.toNat + b.toNat) 0xFFFFFFFF := by
    cases b
    · exact State.numfaults_numErrCount_toNat u 0
    · exact State.numfaults_numErrCount_toNat u 1
  have hreject (u : State) (b : Bool) : (u.rejectIf b).numErrCount = (u.numfaultIf b).numErrCount := by
    cases b <;> rfl
  rw [State.afterFaults, hif, hreject, hif, State.numfaults_numErrCount_toNat]
  omega

/-- A rejected BPM sets both bits, whatever else there is; without one all faults are numeric. -/
theorem State.afterFaults_err (k : Nat) (r p : Bool) :
    (s.afterFaults k r p).err =
      if k + r.toNat + p.toNat = 0 then s.err else if r then s.err ||| 0x600#11 else s.err ||| 0x200#11 := by
  cases r with
  | false =>
    have hnumeric : s.afterFaults k false p = s.numfaults (k + p.toNat) := by
      cases p
      · rfl
      · exact State.numfaults_add s k 1
    rw [hnumeric, State.numfaults_err]
    rfl
  | true =>
    have hrefused (u : State) : (u.numfaultIf p).err = u.err ||| (if p then 0x200#11 else 0#11) := by
      cases p
      · exact (BitVec.or_zero ..).symm
      · rfl
    have hearly : (s.numfaults k).err = s.err ||| (if k = 0 then 0#11 else 0x200#11) := by
      rw [State.numfaults_err]
      split
      · exact (BitVec.or_zero ..).symm
      · rfl
    have hreject : (s.afterFaults k true p).err =
        (s.numfaults k).err ||| 0x200#11 ||| 0x400#11 ||| (if p then 0x200#11 else 0#11) := hrefused _
    have hsome : k + true.toNat + p.toNat ≠ 0 := by rw [Bool.toNat_true]; omega
    rw [if_neg hsome, if_pos rfl, hreject, hearly]
    simp only [BitVec.or_assoc]
    congr 1
    cases p <;> split <;> rfl

theorem State.afterFaults_lastCode (k : Nat) (r p : Bool) :
    (s.afterFaults k r p).lastCode =
      if p then 10#5 else if r then 11#5 else if k + r.toNat + p.toNat = 0 then s.lastCode else 10#5 := by
  cases p with
  | true => rfl
  | false =>
    cases r with
    | true => rfl
    | false => exact State.numfaults_lastCode s k

/-- Faults write ERR, LAST_CODE and their count only. -/
theorem State.afterFaults_frame (k : Nat) (r p : Bool) :
    s.afterFaults k r p = { s with
      err := (s.afterFaults k r p).err, lastCode := (s.afterFaults k r p).lastCode
      numErrCount := (s.afterFaults k r p).numErrCount } := by
  unfold State.afterFaults
  rw [State.numfaults_frame]
  cases r <;> cases p <;> rfl

end

/-! ## The statements -/

/-- The faults of RUN_TEMPO (R158 to R166). -/
def State.tempoFaults (s : State) : Nat :=
  s.earlyFaults + (bpmRejected s.tempo).toNat + (phaseRefused s s.tempo).toNat

section
variable (s : State)

theorem State.tempo_numErrCount_toNat :
    s.tempo.numErrCount.toNat = min (s.numErrCount.toNat + s.tempoFaults) 0xFFFFFFFF := by
  rw [State.tempo_eq_faults]
  exact State.afterFaults_numErrCount_toNat _ _ _ _

theorem State.tempo_err :
    s.tempo.err =
      if s.tempoFaults = 0 then s.err else if bpmRejected s.tempo then s.err ||| 0x600#11 else s.err ||| 0x200#11 :=
  (congrArg State.err s.tempo_eq_faults).trans (State.afterFaults_err _ _ _ _)

theorem State.tempo_lastCode :
    s.tempo.lastCode =
      if phaseRefused s s.tempo then 10#5 else if bpmRejected s.tempo then 11#5
      else if s.tempoFaults = 0 then s.lastCode else 10#5 :=
  (congrArg State.lastCode s.tempo_eq_faults).trans (State.afterFaults_lastCode _ _ _ _)

theorem State.tempo_frame :
    s.tempo = { s with
      err := s.tempo.err, lastCode := s.tempo.lastCode, numErrCount := s.tempo.numErrCount, dyn := s.tempo.dyn } := by
  have hframe := State.afterFaults_frame (s.withDyn s.tempo.dyn) s.earlyFaults (bpmRejected s.tempo)
    (phaseRefused s s.tempo)
  rw [State.afterFaults, ← State.tempo_eq_faults] at hframe
  exact hframe

/-- The working state RUN_TEMPO leaves alone: the stages before it. -/
theorem State.tempo_dyn : s.tempo.dyn =
    { s.dyn with
      elapsedPend := s.tempo.dyn.elapsedPend, wPowerSum := s.tempo.dyn.wPowerSum, wWinner := s.tempo.dyn.wWinner
      wConf := s.tempo.dyn.wConf, wBpm := s.tempo.dyn.wBpm, tempoOsc := s.tempo.dyn.tempoOsc
      tempoValid := s.tempo.dyn.tempoValid, wPhase := s.tempo.dyn.wPhase, wPolarity := s.tempo.dyn.wPolarity
      wPhase01 := s.tempo.dyn.wPhase01, wLocked := s.tempo.dyn.wLocked, wBpmRej := s.tempo.dyn.wBpmRej
      oscRe := s.tempo.dyn.oscRe, oscIm := s.tempo.dyn.oscIm, oscRaw := s.tempo.dyn.oscRaw
      oscSmooth := s.tempo.dyn.oscSmooth, oscPhase := s.tempo.dyn.oscPhase, oscContrib := s.tempo.dyn.oscContrib
      oscActive := s.tempo.dyn.oscActive } := by
  rw [State.tempo_dyn_of_estimated, State.tempoEstimated_dyn, State.tempoScored_dyn]

end

/-- A rejected BPM counts a fault of its own, so the count goes up unless it is saturated. -/
theorem State.tempo_numErrCount_rejected (s : State) (h : bpmRejected s.tempo = true) :
    s.tempo.numErrCount.toNat = 0xFFFFFFFF ∨ s.numErrCount.toNat < s.tempo.numErrCount.toNat := by
  have hfault : 0 < s.tempoFaults := by
    rw [State.tempoFaults, h, Bool.toNat_true]
    omega
  have hcount := s.tempo_numErrCount_toNat
  have hlt := s.tempo.numErrCount.isLt
  omega

/-- ERR.NUMERIC and ERR.BPM_REJECT after a rejected BPM (R165). -/
theorem State.tempo_err_rejected (s : State) (h : bpmRejected s.tempo = true) :
    s.tempo.err.getLsbD 9 = true ∧ s.tempo.err.getLsbD 10 = true := by
  have hfault : s.tempoFaults ≠ 0 := by
    rw [State.tempoFaults, h, Bool.toNat_true]
    omega
  rw [State.tempo_err, if_neg hfault, if_pos h, BitVec.getLsbD_or, BitVec.getLsbD_or]
  exact ⟨Bool.or_true _, Bool.or_true _⟩

/-- No other fault touches ERR.BPM_REJECT. -/
theorem State.tempo_err_bpmReject (s : State) (h : bpmRejected s.tempo = false) :
    s.tempo.err.getLsbD 10 = s.err.getLsbD 10 := by
  rw [State.tempo_err, if_neg (ne_true_of_eq_false h)]
  split
  · rfl
  · rw [BitVec.getLsbD_or]
    exact Bool.or_false _

/-- Settles O43: the four words of the estimate in each case, and the errors of a rejected one. -/
theorem tempoEstimate : Obligations.TempoEstimate := by
  intro s
  refine ⟨s.tempo.complete, rfl, ?_⟩
  rintro _ _ rfl rfl
  have hpowered : powered s.tempo = (val s.tempo.dyn.wPowerSum).gt (val s.cfg.confEps) := by
    rw [powered, State.tempo_cfg]
  have hbounds : bpmAccepted s.tempo = true ↔ (val s.cfg.bpmMin).le (val s.cfg.oscBpm[s.tempo.dyn.wWinner]) = true ∧
      (val s.cfg.oscBpm[s.tempo.dyn.wWinner]).le (val s.cfg.bpmMax) = true := by
    rw [← Bool.and_eq_true, bpmAccepted, State.tempo_cfg]
  refine ⟨fun hpow hok => ?_, fun hpow hbad => ?_, fun hpow => ?_⟩
  · exact Estimate.mk.inj (State.tempo_estimate_accepted (hpowered.trans hpow) (hbounds.mpr hok))
  · have hrej : bpmRejected s.tempo = true := by
      rw [bpmRejected, Bool.eq_false_of_not_eq_true (mt hbounds.mp hbad)]
      exact Bool.and_eq_true_iff.mpr ⟨hpowered.trans hpow, rfl⟩
    obtain ⟨hbpm, hosc, hvalid, hflag⟩ :=
      Estimate.mk.inj (State.tempo_estimate_rejected (hpowered.trans hpow) (mt hbounds.mp hbad))
    obtain ⟨hnumeric, hreject⟩ := s.tempo_err_rejected hrej
    exact ⟨hbpm, hosc, hvalid, hflag, hnumeric, hreject, s.tempo_numErrCount_rejected hrej⟩
  · obtain ⟨hbpm, hosc, hvalid, hflag⟩ := Estimate.mk.inj (State.tempo_estimate_absent (hpowered.trans hpow))
    exact ⟨hbpm, hosc, hvalid, hflag, s.tempo_err_bpmReject (Bool.and_eq_false_iff.mpr (.inl (hpowered.trans hpow)))⟩

/-- Settles O46: the statement's tests are the model's, on the state RUN_TEMPO leaves. -/
theorem tempoFrame : Obligations.TempoFrame := by
  intro s
  refine ⟨s.tempo.complete, rfl, by simp [completed], ?_, ?_⟩
  · have hcount := s.tempo_numErrCount_toNat
    have herr := s.tempo_err
    have hcode := s.tempo_lastCode
    have hcfg := s.tempo_cfg
    simp only [State.tempoFaults, State.earlyFaults, contribution_fault] at hcount herr hcode
    generalize s.tempo = t at *
    simp only [bpmRejected, bpmAccepted, confidenceFault, powered, hcfg] at hcount herr hcode
    intro resonatorFault smoothFault ps powered shareFault b rejected e0 e dphi p0 p phaseFault faults
    have hphase : phaseFault = phaseRefused s t := by
      unfold phaseRefused
      rw [wrapPhase_fst, phaseAdvance, wrapPhase_fst]
      rfl
    rw [← hphase] at hcount herr hcode
    exact ⟨hcount, herr, hcode⟩
  · have hframe := s.tempo_frame
    rw [State.complete_dyn, ← State.tempo_dyn, State.complete_lastCycles, State.complete_draws, State.tempo_draws]
    generalize s.tempo = u at hframe ⊢
    exact congrArg State.complete hframe

end Sys2Proof.Machine
end

section
/-! COMMIT (45_commit.md R170): the published bank copies the working values, and the bits of R_FLAGS are the committed
flags. -/

namespace Sys2Proof.Machine

section
variable (s : State)

/-! ## The bank and the onset event -/

@[simp] theorem State.commit_onsetEvt : s.commit.onsetEvt = (s.onsetEvt || s.dyn.wOnset) := rfl

theorem State.published_seq_toNat : s.published.seq.toNat = (s.res.seq.toNat + 1) % 2 ^ 32 := toNat_add_one s.res.seq

/-- COMMIT writes the result bank and ONSET_EVT, and its completion what every completion does (R121). -/
theorem State.commit_complete_frame : s.commit.complete =
    { s with
      busy := false, done := true, lastCycles := s.commit.complete.lastCycles, draws := s.commit.complete.draws
      res := s.commit.complete.res, onsetEvt := s.commit.complete.onsetEvt } := rfl

/-! ## R_FLAGS (10_state.md R84) -/

/-- The low six bits of R_FLAGS are the committed flags, and the rest are zero. -/
theorem State.commit_complete_flags_getLsbD (i : Nat) :
    (s.commit.complete.word (.res .flags)).getLsbD i =
      [s.dyn.wOnset, s.dyn.wPolarity, s.dyn.tempoValid, s.dyn.wLocked,
        s.dyn.wNfMask0 != 0#32 || s.dyn.wNfMask1 != 0#32, s.dyn.wBpmRej].getD i false := by
  have hword : s.commit.complete.word (.res .flags) = s.dyn.flagBits.setWidth 32 := rfl
  rw [hword, Dyn.flagBits, BitVec.getLsbD_setWidth, BitVec.getLsbD_ofBoolListLE]
  rcases Nat.lt_or_ge i 32 with hlt | hge
  · simp [hlt]
  · rw [List.getD_eq_default _ _ (le_trans (by simp) hge), Bool.and_false]

/-- R_FLAGS[4]: some bin was clamped, by the masks themselves. -/
theorem State.commit_complete_flags_clamped : (s.commit.complete.word (.res .flags)).getLsbD 4 =
    (decide (s.dyn.wNfMask0 ≠ 0#32) || decide (s.dyn.wNfMask1 ≠ 0#32)) := by
  rw [s.commit_complete_flags_getLsbD 4, decide_not, decide_not]
  rfl

end

/-- Settles O47: the bank is `State.published`, whose fields copy the working values, and R_FLAGS is read bit by bit. -/
theorem commitPublishes : Obligations.CommitPublishes := by
  intro s
  refine ⟨s.commit.complete, rfl, by simp [completed], s.published_seq_toNat, rfl, rfl, rfl, rfl, rfl, rfl, rfl, rfl,
    rfl, rfl, rfl, rfl, fun _ => ⟨rfl, rfl, rfl⟩, ?_⟩
  exact ⟨s.commit_complete_flags_getLsbD 0, s.commit_complete_flags_getLsbD 1, s.commit_complete_flags_getLsbD 2,
    s.commit_complete_flags_getLsbD 3, s.commit_complete_flags_clamped, s.commit_complete_flags_getLsbD 5,
    fun i hi => (s.commit_complete_flags_getLsbD i).trans (List.getD_eq_default _ _ hi), s.commit_onsetEvt,
    s.commit_complete_frame⟩

end Sys2Proof.Machine
end

section
/-! Raising an error, counting numeric faults, and the interrupt level (60_exceptions.md R175 to R180). -/

namespace Sys2Proof.Machine

/-! ## Raising an error (R175, R176) -/

theorem Err.bit_lt (e : Err) : e.bit < 11 := by cases e <;> decide

theorem Err.mask_getLsbD (e : Err) (i : Nat) : e.mask.getLsbD i = decide (i = e.bit) := by
  have htwoPow : e.mask.getLsbD i = (decide (e.bit < 11) && decide (e.bit = i)) := BitVec.getLsbD_twoPow e.bit i
  rw [htwoPow, decide_eq_true e.bit_lt, Bool.true_and, decide_eq_decide.mpr eq_comm]

theorem Err.code_toNat (e : Err) : e.code.toNat = e.bit + 1 := by
  have hbit := e.bit_lt
  exact Nat.mod_eq_of_lt (by omega)

theorem State.raiseErr_err_getLsbD (s : State) (e : Err) (i : Nat) :
    (s.raiseErr e).err.getLsbD i = (s.err.getLsbD i || decide (i = e.bit)) := by
  rw [State.raiseErr_err, BitVec.getLsbD_or, Err.mask_getLsbD]

theorem State.raiseErr_errAny (s : State) (e : Err) : (s.raiseErr e).errAny = true := by
  refine (State.errAny_iff _).mpr ⟨e.bit, e.bit_lt, ?_⟩
  rw [s.raiseErr_err_getLsbD, decide_eq_true rfl, Bool.or_true]

/-- Settles O10: bit by bit by the error's mask; the table of R175 is evaluated, one error at a time. -/
theorem raiseSetsOneStickyBit : Obligations.RaiseSetsOneStickyBit := by
  intro s e
  exact ⟨fun i _ => s.raiseErr_err_getLsbD e i, e.code_toNat, s.raiseErr_errAny e, rfl, rfl⟩

/-! ## Counting numeric faults (R177) -/

/-- Settles O11: the count by induction on the faults, and ERR and LAST_CODE as the last of them leaves them. -/
theorem numericFaultsAreCounted : Obligations.NumericFaultsAreCounted := by
  intro s n
  refine ⟨s.numfaults_numErrCount_toNat n, fun hpos => ⟨?_, ?_⟩, s.numfaults_frame n⟩
  · rw [s.numfaults_err n, if_neg hpos.ne']
    rfl
  · rw [s.numfaults_lastCode n, if_neg hpos.ne']
    rfl

/-! ## The interrupt level (R180) -/

theorem State.irqEn_getLsbD (s : State) {i : Nat} (hi : i < 32) : (s.word .irqEn).getLsbD i = s.irqEn.getLsbD i := by
  simp [State.word, hi]

/-- Settles O13: STATUS shows the level and its causes, and IRQ_EN reads back as the enables. -/
theorem interruptLevel : Obligations.InterruptLevel := by
  refine ⟨fun s => ⟨?_, ?_⟩, rfl⟩
  · rw [s.status_getLsbD 7, s.status_getLsbD 1, s.status_getLsbD 3, s.status_getLsbD 2,
      s.irqEn_getLsbD (i := 0) (by omega), s.irqEn_getLsbD (i := 1) (by omega), s.irqEn_getLsbD (i := 2) (by omega)]
    rfl
  · rw [s.status_getLsbD 7]
    rfl

end Sys2Proof.Machine
end

section
/-! Power-on reset (70_reset_and_hazards.md R189): the value every word reads, and the invariants the reset state meets. -/

namespace Sys2Proof.Machine

/-! ## The arrays and the result scalars (10_state.md sections 6 and 7) -/

theorem Cfg.reset_binTable (t : BinTable) : Cfg.reset.binTable t = Vector.replicate 64 0#32 := by cases t <;> rfl

theorem Cfg.reset_oscTable (t : OscTable) : Cfg.reset.oscTable t = Vector.replicate 121 0#32 := by cases t <;> rfl

theorem Results.reset_table (t : ResTable) : Results.reset.table t = Vector.replicate 64 0#32 := by cases t <;> rfl

theorem Results.reset_get (r : ResReg) : Results.reset.get r = 0#32 := by cases r <;> rfl

theorem getElem_of_eq_replicate {α : Type} {n : Nat} {a : α} {v : Vector α n} (h : v = Vector.replicate n a)
    (k : Fin n) : v[k] = a := by
  rw [h]
  exact Vector.getElem_replicate k.isLt

/-- Settles O8: the registers are evaluated; the arrays, the bank and the working state are zero. -/
theorem powerOnResetValues : Obligations.PowerOnResetValues := by
  have hstatus : State.reset.word .status = 0#32 := by decide
  exact ⟨rfl, rfl, rfl, rfl, rfl, rfl, hstatus, rfl, rfl, rfl, rfl, rfl, rfl, rfl, rfl, rfl, rfl, rfl, rfl, rfl, rfl, rfl,
    rfl, fun t k => getElem_of_eq_replicate (Cfg.reset_binTable t) k,
    fun t m => getElem_of_eq_replicate (Cfg.reset_oscTable t) m, fun j => getElem_of_eq_replicate rfl j,
    Results.reset_get, fun t k => getElem_of_eq_replicate (Results.reset_table t) k, Dyn.reset_get, rfl, rfl, rfl⟩

/-! ## The invariants (R189) -/

theorem State.reset_latchLegal : State.reset.LatchLegal := fun hbusy => Bool.noConfusion hbusy

theorem State.reset_configChecked : State.reset.ConfigChecked := fun hen => Bool.noConfusion hen

theorem State.reset_numbersBounded : State.reset.NumbersBounded :=
  State.reset.numbersBounded_iff.mpr ⟨Dyn.bounded_reset, Results.clean_reset⟩

/-- Settles O9: no command is running, nothing is enabled, and every buffer and number is zero. -/
theorem resetMeetsTheInvariants : Obligations.ResetMeetsTheInvariants :=
  ⟨State.reset_latchLegal, State.reset_configChecked, State.reset_codesLegal, Dyn.stageClean_of_empty rfl,
    Dyn.histClean_reset, State.reset_numbersBounded⟩

end Sys2Proof.Machine
end

section
/-! Host accesses while a command runs (70_reset_and_hazards.md R194): which error answers which write. -/

namespace Sys2Proof.Machine

/-- The error that answers an access made while a command runs: CMD_BUSY to CMD, BUSY_WRITE to any other write but those
to STATUS, ERR and IRQ_EN. -/
def errorWhileBusy : Instr → Option Err
  | .wrCmd _ => some .cmdBusy
  | .wrCtrl _ | .wrSampleIn _ | .wrSamplePair _ | .wrRuntime _ _ | .wrCfg _ _ | .wrOther _ _ _ => some .busyWrite
  | _ => none

section
variable {s : State} (hbusy : s.busy = true)
include hbusy

theorem State.accept_busy (v : Word) : s.accept v = s.raiseErr .cmdBusy := if_pos hbusy

theorem execWrRuntime_busy {off : Offset} (v : Word) (hoff : isRuntimeOffset off = true) :
    exec (.wrRuntime off v) s = .next (s.raiseErr .busyWrite) := by
  obtain ⟨hdc, hnov⟩ := runtimeWrite v s
  rw [if_pos hbusy] at hdc hnov
  rw [isRuntimeOffset, Bool.or_eq_true, beq_iff_eq, beq_iff_eq] at hoff
  obtain rfl | rfl := hoff
  · exact hdc
  · exact hnov

theorem execWrCfg_busy {off : Offset} (v : Word) (hoff : isCfgOffset off = true) :
    exec (.wrCfg off v) s = .next (s.raiseErr .busyWrite) := by
  obtain ⟨w, hw⟩ := Option.isSome_iff_exists.mp hoff
  rw [execWrCfg_eq v s hw, if_pos hbusy]

theorem execWrOther_busy {size : AccessSize} {off : Offset} {v : Word} (hwf : (Instr.wrOther size off v).WellFormed) :
    exec (.wrOther size off v) s = .next (s.raiseErr .busyWrite) := by
  obtain ⟨t, hexec, ht, -⟩ := otherWritesOnlyRaise size off v s hwf
  rw [hexec, ht, if_pos hbusy]

/-- Such an access raises its error and does nothing else. -/
theorem exec_of_errorWhileBusy {i : Instr} {e : Err} (hwf : i.WellFormed) (he : errorWhileBusy i = some e) :
    exec i s = .next (s.raiseErr e) := by
  cases i with
  | wrCmd v => cases he; exact congrArg Host.Outcome.next (State.accept_busy hbusy v)
  | wrCtrl v => cases he; exact execWrCtrl_busy v hbusy
  | wrSampleIn v => cases he; exact execWrSampleIn_busy v hbusy
  | wrSamplePair v => cases he; exact execWrSamplePair_busy v hbusy
  | wrRuntime off v => cases he; exact execWrRuntime_busy hbusy v hwf
  | wrCfg off v => cases he; exact execWrCfg_busy hbusy v hwf
  | wrOther size off v => cases he; exact execWrOther_busy hbusy hwf
  | _ => cases he

end

/-- Settles O60: what a record decodes to is a well-formed access, which keeps the operands, and a write with an error of
its own does nothing but raise it. -/
theorem accessesWhileBusyChangeNoOperand : Obligations.AccessesWhileBusyChangeNoOperand := by
  intro r i s hdec hbusy
  obtain ⟨hi, hwf⟩ := decodeAccess_ok ((decode_accessBytes r).symm.trans hdec)
  obtain ⟨t, hexec, hsame⟩ := exec_access_of_busy hi hwf hbusy
  have hraise (e : Err) (he : errorWhileBusy i = some e) : t = s.raiseErr e :=
    Host.Outcome.next.inj (hexec.symm.trans (exec_of_errorWhileBusy hbusy hwf he))
  refine ⟨t, hexec, hsame, fun v hcmd => hraise _ (hcmd ▸ rfl), fun v hwrite => ?_, fun off v hwrite => ?_,
    fun size off v hother => hraise _ (hother ▸ rfl)⟩
  · obtain rfl | rfl | rfl := hwrite <;> exact hraise _ rfl
  · obtain rfl | rfl := hwrite <;> exact hraise _ rfl

end Sys2Proof.Machine
end
